-- ==== Sys2Proof/Word.lean ====
section
/-! DEFINITION. The two word types of the machine (spec/00_scope.md R10): bytes and 16-bit words. -/

namespace Sys2Proof

/-- An 8-bit value: the registers A to L, one memory byte, one instruction byte (R10, R12). -/
abbrev Byte := BitVec 8

/-- A 16-bit value: PC, SP, a register pair, an address (R10, R12). -/
abbrev Word := BitVec 16

end Sys2Proof
end

