-- ==== Sys2Proof/Config.lean ====
section
/-! DEFINITION. The fixed parameters of the hardware (spec/00_scope.md R10) and the named parameters
a model takes (R11). The spec leaves no result of an instruction undefined, so there is no free value. -/

namespace Sys2Proof

/-- `CB_TIMING` (R11, R322): which cycle total an extended opcode returns. -/
inductive CbTiming where
  /-- Prefix cost 4 plus the entry cost: 12, 20 and 16. The default. -/
  | document
  /-- The entry cost alone: 8, 16 and 12. -/
  | hardware
  deriving DecidableEq, Repr

/-- `IRQ_MODEL` (R11, R807, R808): whether the core has the DMG interrupt dispatch. -/
inductive IrqModel where
  /-- No interrupt source and no interrupt input. The default. -/
  | absent
  /-- The optional dispatch of R808. -/
  | gbStandard
  deriving DecidableEq, Repr

/-- The parameters of R11 that no step changes. `ILLEGAL_POLICY` is fixed to `halt_error`, `WAKE` is an input
(`State.inputs`) and `IMAGE` is the memory a machine is created with (`Machine.create`). -/
structure Params where
  cbTiming : CbTiming
  irqModel : IrqModel
  deriving DecidableEq, Repr

/-- The defaults R11 names. -/
def Params.default : Params := { cbTiming := .document, irqModel := .absent }

/-- Number of bytes of memory (R10, R201). -/
def Config.memorySize : Nat := 65536

/-- Clock frequency in Hz (R10, R952). -/
def Config.clockHz : Nat := 4194304

/-- Frames per second (R10). -/
def Config.frameRate : Nat := 60

/-- The frame budget in T-cycles, by integer division (R10, R952). -/
def Config.frameBudget : Nat := Config.clockHz / Config.frameRate

/-- What an address with no entry in memory reads as. DESIGN CHOICE (log 1): the spec gives the core no
fill value of its own (R130); the host loads all 65,536 bytes before the first step. -/
def Config.unlistedByte : Byte := 0x00#8

end Sys2Proof
end

