-- ==== Sys2Proof/WellFormed.lean ====
section
/-! DEFINITION. Which terms of `Instr` are instructions of the machine. Operands are closed types (spec/10_state.md
R109), so an operand is never out of range; one term is no instruction on its own, the bare prefix. -/

namespace Sys2Proof

/-- Is the term the row `PREFIX CB`? Spec/47_system.md R751: "0xCB is never an instruction on its own". -/
def Instr.isPrefix : Instr → Bool
  | .prefixCB _ => true
  | _ => false

/-- A well-formed instruction: any row but the prefix, whose words are those of the extended rows (R303, R751). -/
def Instr.wellFormed (i : Instr) : Bool := !i.isPrefix

end Sys2Proof
end

