-- ==== Sys2Proof/Decode.lean ====
section
/-! DEFINITION. The decoder and the encoder (spec/30_encoding.md). The decoder is written by fields, as R305 to R317
give them; the encoder is written row by row, from the opcode maps R308 and R309. -/

namespace Sys2Proof

/-! ## Bytes of a word (R102, R204) -/

/-- The word `hi:lo` (R12). -/
def wordOf (hi lo : Byte) : Word := hi ++ lo

/-- Bits 15 to 8 of a word. -/
def hiByte (w : Word) : Byte := w.extractLsb' 8 8

/-- Bits 7 to 0 of a word. -/
def loByte (w : Word) : Byte := w.extractLsb' 0 8

/-! ## Fields of an opcode byte (R305) -/

/-- `x = op[7:6]`. -/
def opX (op : Byte) : Nat := op.toNat / 64

/-- `y = op[5:3]`. -/
def opY (op : Byte) : Fin 8 := ⟨op.toNat / 8 % 8, Nat.mod_lt _ (by decide)⟩

/-- `z = op[2:0]`. -/
def opZ (op : Byte) : Fin 8 := ⟨op.toNat % 8, Nat.mod_lt _ (by decide)⟩

/-- `p = op[5:4]`, that is y without its low bit. -/
def fieldP (y : Fin 8) : Nat := y.val / 2

/-- `q = op[3]`, the low bit of y. -/
def fieldQ (y : Fin 8) : Nat := y.val % 2

/-- `cc = op[4:3]`, the low two bits of y (R314). -/
def fieldCc (y : Fin 8) : Nat := y.val % 4

/-! ## Operand fields (R310 to R316): each table from its number, and the number of each entry -/

/-- `R8[i]` (R310). -/
def Opnd8.ofCode (i : Fin 8) : Opnd8 :=
  match i.val with
  | 0 => .reg .b
  | 1 => .reg .c
  | 2 => .reg .d
  | 3 => .reg .e
  | 4 => .reg .h
  | 5 => .reg .l
  | 6 => .mHL
  | _ => .reg .a

/-- The index of an operand in `R8` (R310). -/
def Opnd8.code : Opnd8 → Nat
  | .reg .b => 0
  | .reg .c => 1
  | .reg .d => 2
  | .reg .e => 3
  | .reg .h => 4
  | .reg .l => 5
  | .mHL => 6
  | .reg .a => 7

/-- `R16SP[p]` (R311). -/
def R16.ofCode : Nat → R16
  | 0 => .bc
  | 1 => .de
  | 2 => .hl
  | _ => .sp

/-- The index of a pair in `R16SP` (R311). -/
def R16.code : R16 → Nat
  | .bc => 0
  | .de => 1
  | .hl => 2
  | .sp => 3

/-- `R16STK[p]` (R312). -/
def R16Stk.ofCode : Nat → R16Stk
  | 0 => .bc
  | 1 => .de
  | 2 => .hl
  | _ => .af

/-- The index of a pair in `R16STK` (R312). -/
def R16Stk.code : R16Stk → Nat
  | .bc => 0
  | .de => 1
  | .hl => 2
  | .af => 3

/-- `R16MEM[p]` (R313). -/
def R16Mem.ofCode : Nat → R16Mem
  | 0 => .bc
  | 1 => .de
  | 2 => .hlInc
  | _ => .hlDec

/-- The index of an operand in `R16MEM` (R313). -/
def R16Mem.code : R16Mem → Nat
  | .bc => 0
  | .de => 1
  | .hlInc => 2
  | .hlDec => 3

/-- The condition with number cc (R314). -/
def Cond.ofCode : Nat → Cond
  | 0 => .nz
  | 1 => .z
  | 2 => .nc
  | _ => .c

/-- The number of a condition (R314). -/
def Cond.code : Cond → Nat
  | .nz => 0
  | .z => 1
  | .nc => 2
  | .c => 3

/-- `ALU[y]` (R315). -/
def AluOp.ofCode (y : Fin 8) : AluOp :=
  match y.val with
  | 0 => .add
  | 1 => .adc
  | 2 => .sub
  | 3 => .sbc
  | 4 => .and
  | 5 => .xor
  | 6 => .or
  | _ => .cp

/-- The number of an ALU operation (R315). -/
def AluOp.code : AluOp → Nat
  | .add => 0
  | .adc => 1
  | .sub => 2
  | .sbc => 3
  | .and => 4
  | .xor => 5
  | .or => 6
  | .cp => 7

/-- `ROT[y]` (R316). -/
def RotOp.ofCode (y : Fin 8) : RotOp :=
  match y.val with
  | 0 => .rlc
  | 1 => .rrc
  | 2 => .rl
  | 3 => .rr
  | 4 => .sla
  | 5 => .sra
  | 6 => .swap
  | _ => .srl

/-- The number of a rotate or shift (R316). -/
def RotOp.code : RotOp → Nat
  | .rlc => 0
  | .rrc => 1
  | .rl => 2
  | .rr => 3
  | .sla => 4
  | .sra => 5
  | .swap => 6
  | .srl => 7

/-! ## From fields to rows: one function for each family of the opcode maps -/

/-- Block x = 1 (R306): `LD R8[y],R8[z]`, except that y = z = 6 is HALT. -/
def Instr.ld : Opnd8 → Opnd8 → Instr
  | .reg .b, .reg .b => .ld_B_B
  | .reg .b, .reg .c => .ld_B_C
  | .reg .b, .reg .d => .ld_B_D
  | .reg .b, .reg .e => .ld_B_E
  | .reg .b, .reg .h => .ld_B_H
  | .reg .b, .reg .l => .ld_B_L
  | .reg .b, .mHL => .ld_B_mHL
  | .reg .b, .reg .a => .ld_B_A
  | .reg .c, .reg .b => .ld_C_B
  | .reg .c, .reg .c => .ld_C_C
  | .reg .c, .reg .d => .ld_C_D
  | .reg .c, .reg .e => .ld_C_E
  | .reg .c, .reg .h => .ld_C_H
  | .reg .c, .reg .l => .ld_C_L
  | .reg .c, .mHL => .ld_C_mHL
  | .reg .c, .reg .a => .ld_C_A
  | .reg .d, .reg .b => .ld_D_B
  | .reg .d, .reg .c => .ld_D_C
  | .reg .d, .reg .d => .ld_D_D
  | .reg .d, .reg .e => .ld_D_E
  | .reg .d, .reg .h => .ld_D_H
  | .reg .d, .reg .l => .ld_D_L
  | .reg .d, .mHL => .ld_D_mHL
  | .reg .d, .reg .a => .ld_D_A
  | .reg .e, .reg .b => .ld_E_B
  | .reg .e, .reg .c => .ld_E_C
  | .reg .e, .reg .d => .ld_E_D
  | .reg .e, .reg .e => .ld_E_E
  | .reg .e, .reg .h => .ld_E_H
  | .reg .e, .reg .l => .ld_E_L
  | .reg .e, .mHL => .ld_E_mHL
  | .reg .e, .reg .a => .ld_E_A
  | .reg .h, .reg .b => .ld_H_B
  | .reg .h, .reg .c => .ld_H_C
  | .reg .h, .reg .d => .ld_H_D
  | .reg .h, .reg .e => .ld_H_E
  | .reg .h, .reg .h => .ld_H_H
  | .reg .h, .reg .l => .ld_H_L
  | .reg .h, .mHL => .ld_H_mHL
  | .reg .h, .reg .a => .ld_H_A
  | .reg .l, .reg .b => .ld_L_B
  | .reg .l, .reg .c => .ld_L_C
  | .reg .l, .reg .d => .ld_L_D
  | .reg .l, .reg .e => .ld_L_E
  | .reg .l, .reg .h => .ld_L_H
  | .reg .l, .reg .l => .ld_L_L
  | .reg .l, .mHL => .ld_L_mHL
  | .reg .l, .reg .a => .ld_L_A
  | .mHL, .reg .b => .ld_mHL_B
  | .mHL, .reg .c => .ld_mHL_C
  | .mHL, .reg .d => .ld_mHL_D
  | .mHL, .reg .e => .ld_mHL_E
  | .mHL, .reg .h => .ld_mHL_H
  | .mHL, .reg .l => .ld_mHL_L
  | .mHL, .mHL => .halt
  | .mHL, .reg .a => .ld_mHL_A
  | .reg .a, .reg .b => .ld_A_B
  | .reg .a, .reg .c => .ld_A_C
  | .reg .a, .reg .d => .ld_A_D
  | .reg .a, .reg .e => .ld_A_E
  | .reg .a, .reg .h => .ld_A_H
  | .reg .a, .reg .l => .ld_A_L
  | .reg .a, .mHL => .ld_A_mHL
  | .reg .a, .reg .a => .ld_A_A

/-- `LD R8[y],n8`: R601, R604. -/
def Instr.ldN8 : Opnd8 → Byte → Instr
  | .reg .b, n => .ld_B_n8 n
  | .reg .c, n => .ld_C_n8 n
  | .reg .d, n => .ld_D_n8 n
  | .reg .e, n => .ld_E_n8 n
  | .reg .h, n => .ld_H_n8 n
  | .reg .l, n => .ld_L_n8 n
  | .mHL, n => .ld_mHL_n8 n
  | .reg .a, n => .ld_A_n8 n

/-- `INC R8[y]`: R426, R427. -/
def Instr.inc8 : Opnd8 → Instr
  | .reg .b => .inc_B
  | .reg .c => .inc_C
  | .reg .d => .inc_D
  | .reg .e => .inc_E
  | .reg .h => .inc_H
  | .reg .l => .inc_L
  | .mHL => .inc_mHL
  | .reg .a => .inc_A

/-- `DEC R8[y]`: R428, R429. -/
def Instr.dec8 : Opnd8 → Instr
  | .reg .b => .dec_B
  | .reg .c => .dec_C
  | .reg .d => .dec_D
  | .reg .e => .dec_E
  | .reg .h => .dec_H
  | .reg .l => .dec_L
  | .mHL => .dec_mHL
  | .reg .a => .dec_A

/-- Block x = 2 and the immediate forms (R306, R315): `ALU[y]` with `R8[z]` or n8. -/
def Instr.alu : AluOp → AluSrc → Instr
  | .add, .opnd (.reg .b) => .add_A_B
  | .add, .opnd (.reg .c) => .add_A_C
  | .add, .opnd (.reg .d) => .add_A_D
  | .add, .opnd (.reg .e) => .add_A_E
  | .add, .opnd (.reg .h) => .add_A_H
  | .add, .opnd (.reg .l) => .add_A_L
  | .add, .opnd .mHL => .add_A_mHL
  | .add, .opnd (.reg .a) => .add_A_A
  | .add, .imm n => .add_A_n8 n
  | .adc, .opnd (.reg .b) => .adc_A_B
  | .adc, .opnd (.reg .c) => .adc_A_C
  | .adc, .opnd (.reg .d) => .adc_A_D
  | .adc, .opnd (.reg .e) => .adc_A_E
  | .adc, .opnd (.reg .h) => .adc_A_H
  | .adc, .opnd (.reg .l) => .adc_A_L
  | .adc, .opnd .mHL => .adc_A_mHL
  | .adc, .opnd (.reg .a) => .adc_A_A
  | .adc, .imm n => .adc_A_n8 n
  | .sub, .opnd (.reg .b) => .sub_B
  | .sub, .opnd (.reg .c) => .sub_C
  | .sub, .opnd (.reg .d) => .sub_D
  | .sub, .opnd (.reg .e) => .sub_E
  | .sub, .opnd (.reg .h) => .sub_H
  | .sub, .opnd (.reg .l) => .sub_L
  | .sub, .opnd .mHL => .sub_mHL
  | .sub, .opnd (.reg .a) => .sub_A
  | .sub, .imm n => .sub_n8 n
  | .sbc, .opnd (.reg .b) => .sbc_A_B
  | .sbc, .opnd (.reg .c) => .sbc_A_C
  | .sbc, .opnd (.reg .d) => .sbc_A_D
  | .sbc, .opnd (.reg .e) => .sbc_A_E
  | .sbc, .opnd (.reg .h) => .sbc_A_H
  | .sbc, .opnd (.reg .l) => .sbc_A_L
  | .sbc, .opnd .mHL => .sbc_A_mHL
  | .sbc, .opnd (.reg .a) => .sbc_A_A
  | .sbc, .imm n => .sbc_A_n8 n
  | .and, .opnd (.reg .b) => .and_B
  | .and, .opnd (.reg .c) => .and_C
  | .and, .opnd (.reg .d) => .and_D
  | .and, .opnd (.reg .e) => .and_E
  | .and, .opnd (.reg .h) => .and_H
  | .and, .opnd (.reg .l) => .and_L
  | .and, .opnd .mHL => .and_mHL
  | .and, .opnd (.reg .a) => .and_A
  | .and, .imm n => .and_n8 n
  | .xor, .opnd (.reg .b) => .xor_B
  | .xor, .opnd (.reg .c) => .xor_C
  | .xor, .opnd (.reg .d) => .xor_D
  | .xor, .opnd (.reg .e) => .xor_E
  | .xor, .opnd (.reg .h) => .xor_H
  | .xor, .opnd (.reg .l) => .xor_L
  | .xor, .opnd .mHL => .xor_mHL
  | .xor, .opnd (.reg .a) => .xor_A
  | .xor, .imm n => .xor_n8 n
  | .or, .opnd (.reg .b) => .or_B
  | .or, .opnd (.reg .c) => .or_C
  | .or, .opnd (.reg .d) => .or_D
  | .or, .opnd (.reg .e) => .or_E
  | .or, .opnd (.reg .h) => .or_H
  | .or, .opnd (.reg .l) => .or_L
  | .or, .opnd .mHL => .or_mHL
  | .or, .opnd (.reg .a) => .or_A
  | .or, .imm n => .or_n8 n
  | .cp, .opnd (.reg .b) => .cp_B
  | .cp, .opnd (.reg .c) => .cp_C
  | .cp, .opnd (.reg .d) => .cp_D
  | .cp, .opnd (.reg .e) => .cp_E
  | .cp, .opnd (.reg .h) => .cp_H
  | .cp, .opnd (.reg .l) => .cp_L
  | .cp, .opnd .mHL => .cp_mHL
  | .cp, .opnd (.reg .a) => .cp_A
  | .cp, .imm n => .cp_n8 n

/-- `LD rr,n16`: R620. -/
def Instr.ldN16 : R16 → Word → Instr
  | .bc, n => .ld_BC_n16 n
  | .de, n => .ld_DE_n16 n
  | .hl, n => .ld_HL_n16 n
  | .sp, n => .ld_SP_n16 n

/-- `INC rr`: R450. -/
def Instr.inc16 : R16 → Instr
  | .bc => .inc_BC
  | .de => .inc_DE
  | .hl => .inc_HL
  | .sp => .inc_SP

/-- `DEC rr`: R451. -/
def Instr.dec16 : R16 → Instr
  | .bc => .dec_BC
  | .de => .dec_DE
  | .hl => .dec_HL
  | .sp => .dec_SP

/-- `ADD HL,rr`: R454. -/
def Instr.addHL : R16 → Instr
  | .bc => .add_HL_BC
  | .de => .add_HL_DE
  | .hl => .add_HL_HL
  | .sp => .add_HL_SP

/-- `LD R16MEM[p],A`: R607, R608, R611, R612. -/
def Instr.ldMemA : R16Mem → Instr
  | .bc => .ld_mBC_A
  | .de => .ld_mDE_A
  | .hlInc => .ld_mHLi_A
  | .hlDec => .ld_mHLd_A

/-- `LD A,R16MEM[p]`: R605, R606, R609, R610. -/
def Instr.ldAMem : R16Mem → Instr
  | .bc => .ld_A_mBC
  | .de => .ld_A_mDE
  | .hlInc => .ld_A_mHLi
  | .hlDec => .ld_A_mHLd

/-- `PUSH rr`: R702. -/
def Instr.push : R16Stk → Instr
  | .bc => .push_BC
  | .de => .push_DE
  | .hl => .push_HL
  | .af => .push_AF

/-- `POP rr`: R703, R704. -/
def Instr.pop : R16Stk → Instr
  | .bc => .pop_BC
  | .de => .pop_DE
  | .hl => .pop_HL
  | .af => .pop_AF

/-- `JR cc,e8`: R651. -/
def Instr.jrCc : Cond → Byte → Instr
  | .nz, e => .jr_NZ_e8 e
  | .z, e => .jr_Z_e8 e
  | .nc, e => .jr_NC_e8 e
  | .c, e => .jr_C_e8 e

/-- `JP cc,a16`: R653. -/
def Instr.jpCc : Cond → Word → Instr
  | .nz, a => .jp_NZ_a16 a
  | .z, a => .jp_Z_a16 a
  | .nc, a => .jp_NC_a16 a
  | .c, a => .jp_C_a16 a

/-- `CALL cc,a16`: R656. -/
def Instr.callCc : Cond → Word → Instr
  | .nz, a => .call_NZ_a16 a
  | .z, a => .call_Z_a16 a
  | .nc, a => .call_NC_a16 a
  | .c, a => .call_C_a16 a

/-- `RET cc`: R658. -/
def Instr.retCc : Cond → Instr
  | .nz => .ret_NZ
  | .z => .ret_Z
  | .nc => .ret_NC
  | .c => .ret_C

/-- `RST 8*y`: R317, R660. -/
def Instr.rst (y : Fin 8) : Instr :=
  match y.val with
  | 0 => .rst_00
  | 1 => .rst_08
  | 2 => .rst_10
  | 3 => .rst_18
  | 4 => .rst_20
  | 5 => .rst_28
  | 6 => .rst_30
  | _ => .rst_38

/-- Extended block x = 0 (R309, R316): `ROT[y]` on `R8[z]`. -/
def Instr.rot : RotOp → Opnd8 → Instr
  | .rlc, .reg .b => .rlc_B
  | .rlc, .reg .c => .rlc_C
  | .rlc, .reg .d => .rlc_D
  | .rlc, .reg .e => .rlc_E
  | .rlc, .reg .h => .rlc_H
  | .rlc, .reg .l => .rlc_L
  | .rlc, .mHL => .rlc_mHL
  | .rlc, .reg .a => .rlc_A
  | .rrc, .reg .b => .rrc_B
  | .rrc, .reg .c => .rrc_C
  | .rrc, .reg .d => .rrc_D
  | .rrc, .reg .e => .rrc_E
  | .rrc, .reg .h => .rrc_H
  | .rrc, .reg .l => .rrc_L
  | .rrc, .mHL => .rrc_mHL
  | .rrc, .reg .a => .rrc_A
  | .rl, .reg .b => .rl_B
  | .rl, .reg .c => .rl_C
  | .rl, .reg .d => .rl_D
  | .rl, .reg .e => .rl_E
  | .rl, .reg .h => .rl_H
  | .rl, .reg .l => .rl_L
  | .rl, .mHL => .rl_mHL
  | .rl, .reg .a => .rl_A
  | .rr, .reg .b => .rr_B
  | .rr, .reg .c => .rr_C
  | .rr, .reg .d => .rr_D
  | .rr, .reg .e => .rr_E
  | .rr, .reg .h => .rr_H
  | .rr, .reg .l => .rr_L
  | .rr, .mHL => .rr_mHL
  | .rr, .reg .a => .rr_A
  | .sla, .reg .b => .sla_B
  | .sla, .reg .c => .sla_C
  | .sla, .reg .d => .sla_D
  | .sla, .reg .e => .sla_E
  | .sla, .reg .h => .sla_H
  | .sla, .reg .l => .sla_L
  | .sla, .mHL => .sla_mHL
  | .sla, .reg .a => .sla_A
  | .sra, .reg .b => .sra_B
  | .sra, .reg .c => .sra_C
  | .sra, .reg .d => .sra_D
  | .sra, .reg .e => .sra_E
  | .sra, .reg .h => .sra_H
  | .sra, .reg .l => .sra_L
  | .sra, .mHL => .sra_mHL
  | .sra, .reg .a => .sra_A
  | .swap, .reg .b => .swap_B
  | .swap, .reg .c => .swap_C
  | .swap, .reg .d => .swap_D
  | .swap, .reg .e => .swap_E
  | .swap, .reg .h => .swap_H
  | .swap, .reg .l => .swap_L
  | .swap, .mHL => .swap_mHL
  | .swap, .reg .a => .swap_A
  | .srl, .reg .b => .srl_B
  | .srl, .reg .c => .srl_C
  | .srl, .reg .d => .srl_D
  | .srl, .reg .e => .srl_E
  | .srl, .reg .h => .srl_H
  | .srl, .reg .l => .srl_L
  | .srl, .mHL => .srl_mHL
  | .srl, .reg .a => .srl_A

/-- Extended block x = 1 (R309, R316): `BIT b` on `R8[z]`. -/
def Instr.bit (b : Fin 8) (o : Opnd8) : Instr :=
  match b.val, o with
  | 0, .reg .b => .bit_0_B
  | 0, .reg .c => .bit_0_C
  | 0, .reg .d => .bit_0_D
  | 0, .reg .e => .bit_0_E
  | 0, .reg .h => .bit_0_H
  | 0, .reg .l => .bit_0_L
  | 0, .mHL => .bit_0_mHL
  | 0, .reg .a => .bit_0_A
  | 1, .reg .b => .bit_1_B
  | 1, .reg .c => .bit_1_C
  | 1, .reg .d => .bit_1_D
  | 1, .reg .e => .bit_1_E
  | 1, .reg .h => .bit_1_H
  | 1, .reg .l => .bit_1_L
  | 1, .mHL => .bit_1_mHL
  | 1, .reg .a => .bit_1_A
  | 2, .reg .b => .bit_2_B
  | 2, .reg .c => .bit_2_C
  | 2, .reg .d => .bit_2_D
  | 2, .reg .e => .bit_2_E
  | 2, .reg .h => .bit_2_H
  | 2, .reg .l => .bit_2_L
  | 2, .mHL => .bit_2_mHL
  | 2, .reg .a => .bit_2_A
  | 3, .reg .b => .bit_3_B
  | 3, .reg .c => .bit_3_C
  | 3, .reg .d => .bit_3_D
  | 3, .reg .e => .bit_3_E
  | 3, .reg .h => .bit_3_H
  | 3, .reg .l => .bit_3_L
  | 3, .mHL => .bit_3_mHL
  | 3, .reg .a => .bit_3_A
  | 4, .reg .b => .bit_4_B
  | 4, .reg .c => .bit_4_C
  | 4, .reg .d => .bit_4_D
  | 4, .reg .e => .bit_4_E
  | 4, .reg .h => .bit_4_H
  | 4, .reg .l => .bit_4_L
  | 4, .mHL => .bit_4_mHL
  | 4, .reg .a => .bit_4_A
  | 5, .reg .b => .bit_5_B
  | 5, .reg .c => .bit_5_C
  | 5, .reg .d => .bit_5_D
  | 5, .reg .e => .bit_5_E
  | 5, .reg .h => .bit_5_H
  | 5, .reg .l => .bit_5_L
  | 5, .mHL => .bit_5_mHL
  | 5, .reg .a => .bit_5_A
  | 6, .reg .b => .bit_6_B
  | 6, .reg .c => .bit_6_C
  | 6, .reg .d => .bit_6_D
  | 6, .reg .e => .bit_6_E
  | 6, .reg .h => .bit_6_H
  | 6, .reg .l => .bit_6_L
  | 6, .mHL => .bit_6_mHL
  | 6, .reg .a => .bit_6_A
  | _, .reg .b => .bit_7_B
  | _, .reg .c => .bit_7_C
  | _, .reg .d => .bit_7_D
  | _, .reg .e => .bit_7_E
  | _, .reg .h => .bit_7_H
  | _, .reg .l => .bit_7_L
  | _, .mHL => .bit_7_mHL
  | _, .reg .a => .bit_7_A

/-- Extended block x = 2 (R309, R316): `RES b` on `R8[z]`. -/
def Instr.res (b : Fin 8) (o : Opnd8) : Instr :=
  match b.val, o with
  | 0, .reg .b => .res_0_B
  | 0, .reg .c => .res_0_C
  | 0, .reg .d => .res_0_D
  | 0, .reg .e => .res_0_E
  | 0, .reg .h => .res_0_H
  | 0, .reg .l => .res_0_L
  | 0, .mHL => .res_0_mHL
  | 0, .reg .a => .res_0_A
  | 1, .reg .b => .res_1_B
  | 1, .reg .c => .res_1_C
  | 1, .reg .d => .res_1_D
  | 1, .reg .e => .res_1_E
  | 1, .reg .h => .res_1_H
  | 1, .reg .l => .res_1_L
  | 1, .mHL => .res_1_mHL
  | 1, .reg .a => .res_1_A
  | 2, .reg .b => .res_2_B
  | 2, .reg .c => .res_2_C
  | 2, .reg .d => .res_2_D
  | 2, .reg .e => .res_2_E
  | 2, .reg .h => .res_2_H
  | 2, .reg .l => .res_2_L
  | 2, .mHL => .res_2_mHL
  | 2, .reg .a => .res_2_A
  | 3, .reg .b => .res_3_B
  | 3, .reg .c => .res_3_C
  | 3, .reg .d => .res_3_D
  | 3, .reg .e => .res_3_E
  | 3, .reg .h => .res_3_H
  | 3, .reg .l => .res_3_L
  | 3, .mHL => .res_3_mHL
  | 3, .reg .a => .res_3_A
  | 4, .reg .b => .res_4_B
  | 4, .reg .c => .res_4_C
  | 4, .reg .d => .res_4_D
  | 4, .reg .e => .res_4_E
  | 4, .reg .h => .res_4_H
  | 4, .reg .l => .res_4_L
  | 4, .mHL => .res_4_mHL
  | 4, .reg .a => .res_4_A
  | 5, .reg .b => .res_5_B
  | 5, .reg .c => .res_5_C
  | 5, .reg .d => .res_5_D
  | 5, .reg .e => .res_5_E
  | 5, .reg .h => .res_5_H
  | 5, .reg .l => .res_5_L
  | 5, .mHL => .res_5_mHL
  | 5, .reg .a => .res_5_A
  | 6, .reg .b => .res_6_B
  | 6, .reg .c => .res_6_C
  | 6, .reg .d => .res_6_D
  | 6, .reg .e => .res_6_E
  | 6, .reg .h => .res_6_H
  | 6, .reg .l => .res_6_L
  | 6, .mHL => .res_6_mHL
  | 6, .reg .a => .res_6_A
  | _, .reg .b => .res_7_B
  | _, .reg .c => .res_7_C
  | _, .reg .d => .res_7_D
  | _, .reg .e => .res_7_E
  | _, .reg .h => .res_7_H
  | _, .reg .l => .res_7_L
  | _, .mHL => .res_7_mHL
  | _, .reg .a => .res_7_A

/-- Extended block x = 3 (R309, R316): `SET b` on `R8[z]`. -/
def Instr.set (b : Fin 8) (o : Opnd8) : Instr :=
  match b.val, o with
  | 0, .reg .b => .set_0_B
  | 0, .reg .c => .set_0_C
  | 0, .reg .d => .set_0_D
  | 0, .reg .e => .set_0_E
  | 0, .reg .h => .set_0_H
  | 0, .reg .l => .set_0_L
  | 0, .mHL => .set_0_mHL
  | 0, .reg .a => .set_0_A
  | 1, .reg .b => .set_1_B
  | 1, .reg .c => .set_1_C
  | 1, .reg .d => .set_1_D
  | 1, .reg .e => .set_1_E
  | 1, .reg .h => .set_1_H
  | 1, .reg .l => .set_1_L
  | 1, .mHL => .set_1_mHL
  | 1, .reg .a => .set_1_A
  | 2, .reg .b => .set_2_B
  | 2, .reg .c => .set_2_C
  | 2, .reg .d => .set_2_D
  | 2, .reg .e => .set_2_E
  | 2, .reg .h => .set_2_H
  | 2, .reg .l => .set_2_L
  | 2, .mHL => .set_2_mHL
  | 2, .reg .a => .set_2_A
  | 3, .reg .b => .set_3_B
  | 3, .reg .c => .set_3_C
  | 3, .reg .d => .set_3_D
  | 3, .reg .e => .set_3_E
  | 3, .reg .h => .set_3_H
  | 3, .reg .l => .set_3_L
  | 3, .mHL => .set_3_mHL
  | 3, .reg .a => .set_3_A
  | 4, .reg .b => .set_4_B
  | 4, .reg .c => .set_4_C
  | 4, .reg .d => .set_4_D
  | 4, .reg .e => .set_4_E
  | 4, .reg .h => .set_4_H
  | 4, .reg .l => .set_4_L
  | 4, .mHL => .set_4_mHL
  | 4, .reg .a => .set_4_A
  | 5, .reg .b => .set_5_B
  | 5, .reg .c => .set_5_C
  | 5, .reg .d => .set_5_D
  | 5, .reg .e => .set_5_E
  | 5, .reg .h => .set_5_H
  | 5, .reg .l => .set_5_L
  | 5, .mHL => .set_5_mHL
  | 5, .reg .a => .set_5_A
  | 6, .reg .b => .set_6_B
  | 6, .reg .c => .set_6_C
  | 6, .reg .d => .set_6_D
  | 6, .reg .e => .set_6_E
  | 6, .reg .h => .set_6_H
  | 6, .reg .l => .set_6_L
  | 6, .mHL => .set_6_mHL
  | 6, .reg .a => .set_6_A
  | _, .reg .b => .set_7_B
  | _, .reg .c => .set_7_C
  | _, .reg .d => .set_7_D
  | _, .reg .e => .set_7_E
  | _, .reg .h => .set_7_H
  | _, .reg .l => .set_7_L
  | _, .mHL => .set_7_mHL
  | _, .reg .a => .set_7_A

/-- The eleven illegal bytes and their rows (R307, R752). -/
def illegalTable : List (Byte × Instr) :=
  [(0xD3, .illegal_D3), (0xDB, .illegal_DB), (0xDD, .illegal_DD), (0xE3, .illegal_E3),
   (0xE4, .illegal_E4), (0xEB, .illegal_EB), (0xEC, .illegal_EC), (0xED, .illegal_ED),
   (0xF4, .illegal_F4), (0xFC, .illegal_FC), (0xFD, .illegal_FD)]

/-! ## The decoder -/

/-- Block x = 0 of the primary map (R306, R308). -/
def decodeX0 (y z : Fin 8) (b1 b2 : Byte) : Instr :=
  let rr := R16.ofCode (fieldP y)
  match z.val with
  | 0 =>
    match y.val with
    | 0 => .nop
    | 1 => .ld_ma16_SP (wordOf b2 b1)
    | 2 => .stop b1
    | 3 => .jr_e8 b1
    | _ => .jrCc (.ofCode (fieldCc y)) b1
  | 1 => if fieldQ y = 0 then .ldN16 rr (wordOf b2 b1) else .addHL rr
  | 2 => if fieldQ y = 0 then .ldMemA (.ofCode (fieldP y)) else .ldAMem (.ofCode (fieldP y))
  | 3 => if fieldQ y = 0 then .inc16 rr else .dec16 rr
  | 4 => .inc8 (.ofCode y)
  | 5 => .dec8 (.ofCode y)
  | 6 => .ldN8 (.ofCode y) b1
  | _ =>
    match y.val with
    | 0 => .rlca
    | 1 => .rrca
    | 2 => .rla
    | 3 => .rra
    | 4 => .daa
    | 5 => .cpl
    | 6 => .scf
    | _ => .ccf

/-- Block x = 3 of the primary map (R306, R308), which holds the prefix (R303) and the illegal bytes (R307). -/
def decodeX3 (y z : Fin 8) (b1 b2 : Byte) : Instr :=
  let cc := Cond.ofCode (fieldCc y)
  match z.val with
  | 0 =>
    match y.val with
    | 4 => .ldh_ma8_A b1
    | 5 => .add_SP_e8 b1
    | 6 => .ldh_A_ma8 b1
    | 7 => .ld_HL_SPe8 b1
    | _ => .retCc cc
  | 1 =>
    if fieldQ y = 0 then .pop (.ofCode (fieldP y)) else
    match fieldP y with
    | 0 => .ret
    | 1 => .reti
    | 2 => .jp_HL
    | _ => .ld_SP_HL
  | 2 =>
    match y.val with
    | 4 => .ld_mC_A
    | 5 => .ld_ma16_A (wordOf b2 b1)
    | 6 => .ld_A_mC
    | 7 => .ld_A_ma16 (wordOf b2 b1)
    | _ => .jpCc cc (wordOf b2 b1)
  | 3 =>
    match y.val with
    | 0 => .jp_a16 (wordOf b2 b1)
    | 1 => .prefixCB b1
    | 2 => .illegal_D3
    | 3 => .illegal_DB
    | 4 => .illegal_E3
    | 5 => .illegal_EB
    | 6 => .di
    | _ => .ei
  | 4 =>
    match y.val with
    | 4 => .illegal_E4
    | 5 => .illegal_EC
    | 6 => .illegal_F4
    | 7 => .illegal_FC
    | _ => .callCc cc (wordOf b2 b1)
  | 5 =>
    if fieldQ y = 0 then .push (.ofCode (fieldP y)) else
    match fieldP y with
    | 0 => .call_a16 (wordOf b2 b1)
    | 1 => .illegal_DD
    | 2 => .illegal_ED
    | _ => .illegal_FD
  | 6 => .alu (.ofCode y) (.imm b1)
  | _ => .rst y

/-- The entry of the primary table at `op`, with its operand bytes (R301, R306). `b1` and `b2` are the bytes after
`op`; an entry uses those its format has. The prefix entry carries the extended byte. -/
def decodePrimary (op b1 b2 : Byte) : Instr :=
  match opX op with
  | 0 => decodeX0 (opY op) (opZ op) b1 b2
  | 1 => .ld (.ofCode (opY op)) (.ofCode (opZ op))
  | 2 => .alu (.ofCode (opY op)) (.opnd (.ofCode (opZ op)))
  | _ => decodeX3 (opY op) (opZ op) b1 b2

/-- The entry of the extended table at `op2` (R309). All 256 entries are legal. -/
def decodeExtended (op2 : Byte) : Instr :=
  match opX op2 with
  | 0 => .rot (.ofCode (opY op2)) (.ofCode (opZ op2))
  | 1 => .bit (opY op2) (.ofCode (opZ op2))
  | 2 => .res (opY op2) (.ofCode (opZ op2))
  | _ => .set (opY op2) (.ofCode (opZ op2))

/-- The prefix byte (R303). -/
def prefixByte : Byte := 0xCB#8

/-- The instruction whose first byte is `op`: the prefix dispatches the next byte in the extended table (R303). -/
def decodeBytes (op b1 b2 : Byte) : Instr :=
  if op = prefixByte then decodeExtended b1 else decodePrimary op b1 b2

/-- First bytes of the instructions of three bytes (R302, R308). -/
def threeByteOpcodes : List Byte :=
  [0x01, 0x11, 0x21, 0x31, 0x08, 0xEA, 0xFA, 0xC3, 0xCD] ++
  [0xC2, 0xCA, 0xD2, 0xDA, 0xC4, 0xCC, 0xD4, 0xDC]

/-- First bytes of the instructions of two bytes: n8, e8 and a8 forms, STOP and the prefix (R302, R308, R324). -/
def twoByteOpcodes : List Byte :=
  [0x06, 0x0E, 0x16, 0x1E, 0x26, 0x2E, 0x36, 0x3E] ++
  [0xC6, 0xCE, 0xD6, 0xDE, 0xE6, 0xEE, 0xF6, 0xFE] ++
  [0x18, 0x20, 0x28, 0x30, 0x38, 0xE8, 0xF8, 0xE0, 0xF0] ++
  [0x10, 0xCB]

/-- The length of an instruction, decided by its first byte alone (R302). -/
def instrLength (op : Byte) : Nat :=
  if op ∈ threeByteOpcodes then 3 else if op ∈ twoByteOpcodes then 2 else 1

/-- Why a list of bytes has no first instruction. No byte is an unknown opcode (R300, R802): the one reason is that
the list ends inside the instruction. -/
inductive DecodeError where
  | truncated
  deriving DecidableEq, Repr

/-- The first instruction of a list of bytes and the bytes after it (R301, R302). -/
def decode : List Byte → Except DecodeError (Instr × List Byte)
  | [] => .error .truncated
  | op :: rest =>
    if rest.length + 1 < instrLength op then .error .truncated
    else .ok (decodeBytes op (rest.getD 0 0) (rest.getD 1 0), rest.drop (instrLength op - 1))

/-! ## The encoder -/

/-- The bytes of an instruction, first byte at the lowest address, written from the opcode maps (R308, R309) and the
formats (R305); a 16-bit immediate follows low byte first (R321). -/
def Instr.encode : Instr → List Byte
  | .nop => [0x00]
  | .ld_BC_n16 n => [0x01, loByte n, hiByte n]
  | .ld_mBC_A => [0x02]
  | .inc_BC => [0x03]
  | .inc_B => [0x04]
  | .dec_B => [0x05]
  | .ld_B_n8 n => [0x06, n]
  | .rlca => [0x07]
  | .ld_ma16_SP a => [0x08, loByte a, hiByte a]
  | .add_HL_BC => [0x09]
  | .ld_A_mBC => [0x0A]
  | .dec_BC => [0x0B]
  | .inc_C => [0x0C]
  | .dec_C => [0x0D]
  | .ld_C_n8 n => [0x0E, n]
  | .rrca => [0x0F]
  | .stop x => [0x10, x]
  | .ld_DE_n16 n => [0x11, loByte n, hiByte n]
  | .ld_mDE_A => [0x12]
  | .inc_DE => [0x13]
  | .inc_D => [0x14]
  | .dec_D => [0x15]
  | .ld_D_n8 n => [0x16, n]
  | .rla => [0x17]
  | .jr_e8 e => [0x18, e]
  | .add_HL_DE => [0x19]
  | .ld_A_mDE => [0x1A]
  | .dec_DE => [0x1B]
  | .inc_E => [0x1C]
  | .dec_E => [0x1D]
  | .ld_E_n8 n => [0x1E, n]
  | .rra => [0x1F]
  | .jr_NZ_e8 e => [0x20, e]
  | .ld_HL_n16 n => [0x21, loByte n, hiByte n]
  | .ld_mHLi_A => [0x22]
  | .inc_HL => [0x23]
  | .inc_H => [0x24]
  | .dec_H => [0x25]
  | .ld_H_n8 n => [0x26, n]
  | .daa => [0x27]
  | .jr_Z_e8 e => [0x28, e]
  | .add_HL_HL => [0x29]
  | .ld_A_mHLi => [0x2A]
  | .dec_HL => [0x2B]
  | .inc_L => [0x2C]
  | .dec_L => [0x2D]
  | .ld_L_n8 n => [0x2E, n]
  | .cpl => [0x2F]
  | .jr_NC_e8 e => [0x30, e]
  | .ld_SP_n16 n => [0x31, loByte n, hiByte n]
  | .ld_mHLd_A => [0x32]
  | .inc_SP => [0x33]
  | .inc_mHL => [0x34]
  | .dec_mHL => [0x35]
  | .ld_mHL_n8 n => [0x36, n]
  | .scf => [0x37]
  | .jr_C_e8 e => [0x38, e]
  | .add_HL_SP => [0x39]
  | .ld_A_mHLd => [0x3A]
  | .dec_SP => [0x3B]
  | .inc_A => [0x3C]
  | .dec_A => [0x3D]
  | .ld_A_n8 n => [0x3E, n]
  | .ccf => [0x3F]
  | .ld_B_B => [0x40]
  | .ld_B_C => [0x41]
  | .ld_B_D => [0x42]
  | .ld_B_E => [0x43]
  | .ld_B_H => [0x44]
  | .ld_B_L => [0x45]
  | .ld_B_mHL => [0x46]
  | .ld_B_A => [0x47]
  | .ld_C_B => [0x48]
  | .ld_C_C => [0x49]
  | .ld_C_D => [0x4A]
  | .ld_C_E => [0x4B]
  | .ld_C_H => [0x4C]
  | .ld_C_L => [0x4D]
  | .ld_C_mHL => [0x4E]
  | .ld_C_A => [0x4F]
  | .ld_D_B => [0x50]
  | .ld_D_C => [0x51]
  | .ld_D_D => [0x52]
  | .ld_D_E => [0x53]
  | .ld_D_H => [0x54]
  | .ld_D_L => [0x55]
  | .ld_D_mHL => [0x56]
  | .ld_D_A => [0x57]
  | .ld_E_B => [0x58]
  | .ld_E_C => [0x59]
  | .ld_E_D => [0x5A]
  | .ld_E_E => [0x5B]
  | .ld_E_H => [0x5C]
  | .ld_E_L => [0x5D]
  | .ld_E_mHL => [0x5E]
  | .ld_E_A => [0x5F]
  | .ld_H_B => [0x60]
  | .ld_H_C => [0x61]
  | .ld_H_D => [0x62]
  | .ld_H_E => [0x63]
  | .ld_H_H => [0x64]
  | .ld_H_L => [0x65]
  | .ld_H_mHL => [0x66]
  | .ld_H_A => [0x67]
  | .ld_L_B => [0x68]
  | .ld_L_C => [0x69]
  | .ld_L_D => [0x6A]
  | .ld_L_E => [0x6B]
  | .ld_L_H => [0x6C]
  | .ld_L_L => [0x6D]
  | .ld_L_mHL => [0x6E]
  | .ld_L_A => [0x6F]
  | .ld_mHL_B => [0x70]
  | .ld_mHL_C => [0x71]
  | .ld_mHL_D => [0x72]
  | .ld_mHL_E => [0x73]
  | .ld_mHL_H => [0x74]
  | .ld_mHL_L => [0x75]
  | .halt => [0x76]
  | .ld_mHL_A => [0x77]
  | .ld_A_B => [0x78]
  | .ld_A_C => [0x79]
  | .ld_A_D => [0x7A]
  | .ld_A_E => [0x7B]
  | .ld_A_H => [0x7C]
  | .ld_A_L => [0x7D]
  | .ld_A_mHL => [0x7E]
  | .ld_A_A => [0x7F]
  | .add_A_B => [0x80]
  | .add_A_C => [0x81]
  | .add_A_D => [0x82]
  | .add_A_E => [0x83]
  | .add_A_H => [0x84]
  | .add_A_L => [0x85]
  | .add_A_mHL => [0x86]
  | .add_A_A => [0x87]
  | .adc_A_B => [0x88]
  | .adc_A_C => [0x89]
  | .adc_A_D => [0x8A]
  | .adc_A_E => [0x8B]
  | .adc_A_H => [0x8C]
  | .adc_A_L => [0x8D]
  | .adc_A_mHL => [0x8E]
  | .adc_A_A => [0x8F]
  | .sub_B => [0x90]
  | .sub_C => [0x91]
  | .sub_D => [0x92]
  | .sub_E => [0x93]
  | .sub_H => [0x94]
  | .sub_L => [0x95]
  | .sub_mHL => [0x96]
  | .sub_A => [0x97]
  | .sbc_A_B => [0x98]
  | .sbc_A_C => [0x99]
  | .sbc_A_D => [0x9A]
  | .sbc_A_E => [0x9B]
  | .sbc_A_H => [0x9C]
  | .sbc_A_L => [0x9D]
  | .sbc_A_mHL => [0x9E]
  | .sbc_A_A => [0x9F]
  | .and_B => [0xA0]
  | .and_C => [0xA1]
  | .and_D => [0xA2]
  | .and_E => [0xA3]
  | .and_H => [0xA4]
  | .and_L => [0xA5]
  | .and_mHL => [0xA6]
  | .and_A => [0xA7]
  | .xor_B => [0xA8]
  | .xor_C => [0xA9]
  | .xor_D => [0xAA]
  | .xor_E => [0xAB]
  | .xor_H => [0xAC]
  | .xor_L => [0xAD]
  | .xor_mHL => [0xAE]
  | .xor_A => [0xAF]
  | .or_B => [0xB0]
  | .or_C => [0xB1]
  | .or_D => [0xB2]
  | .or_E => [0xB3]
  | .or_H => [0xB4]
  | .or_L => [0xB5]
  | .or_mHL => [0xB6]
  | .or_A => [0xB7]
  | .cp_B => [0xB8]
  | .cp_C => [0xB9]
  | .cp_D => [0xBA]
  | .cp_E => [0xBB]
  | .cp_H => [0xBC]
  | .cp_L => [0xBD]
  | .cp_mHL => [0xBE]
  | .cp_A => [0xBF]
  | .ret_NZ => [0xC0]
  | .pop_BC => [0xC1]
  | .jp_NZ_a16 a => [0xC2, loByte a, hiByte a]
  | .jp_a16 a => [0xC3, loByte a, hiByte a]
  | .call_NZ_a16 a => [0xC4, loByte a, hiByte a]
  | .push_BC => [0xC5]
  | .add_A_n8 n => [0xC6, n]
  | .rst_00 => [0xC7]
  | .ret_Z => [0xC8]
  | .ret => [0xC9]
  | .jp_Z_a16 a => [0xCA, loByte a, hiByte a]
  | .prefixCB op2 => [0xCB, op2]
  | .call_Z_a16 a => [0xCC, loByte a, hiByte a]
  | .call_a16 a => [0xCD, loByte a, hiByte a]
  | .adc_A_n8 n => [0xCE, n]
  | .rst_08 => [0xCF]
  | .ret_NC => [0xD0]
  | .pop_DE => [0xD1]
  | .jp_NC_a16 a => [0xD2, loByte a, hiByte a]
  | .illegal_D3 => [0xD3]
  | .call_NC_a16 a => [0xD4, loByte a, hiByte a]
  | .push_DE => [0xD5]
  | .sub_n8 n => [0xD6, n]
  | .rst_10 => [0xD7]
  | .ret_C => [0xD8]
  | .reti => [0xD9]
  | .jp_C_a16 a => [0xDA, loByte a, hiByte a]
  | .illegal_DB => [0xDB]
  | .call_C_a16 a => [0xDC, loByte a, hiByte a]
  | .illegal_DD => [0xDD]
  | .sbc_A_n8 n => [0xDE, n]
  | .rst_18 => [0xDF]
  | .ldh_ma8_A a => [0xE0, a]
  | .pop_HL => [0xE1]
  | .ld_mC_A => [0xE2]
  | .illegal_E3 => [0xE3]
  | .illegal_E4 => [0xE4]
  | .push_HL => [0xE5]
  | .and_n8 n => [0xE6, n]
  | .rst_20 => [0xE7]
  | .add_SP_e8 e => [0xE8, e]
  | .jp_HL => [0xE9]
  | .ld_ma16_A a => [0xEA, loByte a, hiByte a]
  | .illegal_EB => [0xEB]
  | .illegal_EC => [0xEC]
  | .illegal_ED => [0xED]
  | .xor_n8 n => [0xEE, n]
  | .rst_28 => [0xEF]
  | .ldh_A_ma8 a => [0xF0, a]
  | .pop_AF => [0xF1]
  | .ld_A_mC => [0xF2]
  | .di => [0xF3]
  | .illegal_F4 => [0xF4]
  | .push_AF => [0xF5]
  | .or_n8 n => [0xF6, n]
  | .rst_30 => [0xF7]
  | .ld_HL_SPe8 e => [0xF8, e]
  | .ld_SP_HL => [0xF9]
  | .ld_A_ma16 a => [0xFA, loByte a, hiByte a]
  | .ei => [0xFB]
  | .illegal_FC => [0xFC]
  | .illegal_FD => [0xFD]
  | .cp_n8 n => [0xFE, n]
  | .rst_38 => [0xFF]
  | .rlc_B => [0xCB, 0x00]
  | .rlc_C => [0xCB, 0x01]
  | .rlc_D => [0xCB, 0x02]
  | .rlc_E => [0xCB, 0x03]
  | .rlc_H => [0xCB, 0x04]
  | .rlc_L => [0xCB, 0x05]
  | .rlc_mHL => [0xCB, 0x06]
  | .rlc_A => [0xCB, 0x07]
  | .rrc_B => [0xCB, 0x08]
  | .rrc_C => [0xCB, 0x09]
  | .rrc_D => [0xCB, 0x0A]
  | .rrc_E => [0xCB, 0x0B]
  | .rrc_H => [0xCB, 0x0C]
  | .rrc_L => [0xCB, 0x0D]
  | .rrc_mHL => [0xCB, 0x0E]
  | .rrc_A => [0xCB, 0x0F]
  | .rl_B => [0xCB, 0x10]
  | .rl_C => [0xCB, 0x11]
  | .rl_D => [0xCB, 0x12]
  | .rl_E => [0xCB, 0x13]
  | .rl_H => [0xCB, 0x14]
  | .rl_L => [0xCB, 0x15]
  | .rl_mHL => [0xCB, 0x16]
  | .rl_A => [0xCB, 0x17]
  | .rr_B => [0xCB, 0x18]
  | .rr_C => [0xCB, 0x19]
  | .rr_D => [0xCB, 0x1A]
  | .rr_E => [0xCB, 0x1B]
  | .rr_H => [0xCB, 0x1C]
  | .rr_L => [0xCB, 0x1D]
  | .rr_mHL => [0xCB, 0x1E]
  | .rr_A => [0xCB, 0x1F]
  | .sla_B => [0xCB, 0x20]
  | .sla_C => [0xCB, 0x21]
  | .sla_D => [0xCB, 0x22]
  | .sla_E => [0xCB, 0x23]
  | .sla_H => [0xCB, 0x24]
  | .sla_L => [0xCB, 0x25]
  | .sla_mHL => [0xCB, 0x26]
  | .sla_A => [0xCB, 0x27]
  | .sra_B => [0xCB, 0x28]
  | .sra_C => [0xCB, 0x29]
  | .sra_D => [0xCB, 0x2A]
  | .sra_E => [0xCB, 0x2B]
  | .sra_H => [0xCB, 0x2C]
  | .sra_L => [0xCB, 0x2D]
  | .sra_mHL => [0xCB, 0x2E]
  | .sra_A => [0xCB, 0x2F]
  | .swap_B => [0xCB, 0x30]
  | .swap_C => [0xCB, 0x31]
  | .swap_D => [0xCB, 0x32]
  | .swap_E => [0xCB, 0x33]
  | .swap_H => [0xCB, 0x34]
  | .swap_L => [0xCB, 0x35]
  | .swap_mHL => [0xCB, 0x36]
  | .swap_A => [0xCB, 0x37]
  | .srl_B => [0xCB, 0x38]
  | .srl_C => [0xCB, 0x39]
  | .srl_D => [0xCB, 0x3A]
  | .srl_E => [0xCB, 0x3B]
  | .srl_H => [0xCB, 0x3C]
  | .srl_L => [0xCB, 0x3D]
  | .srl_mHL => [0xCB, 0x3E]
  | .srl_A => [0xCB, 0x3F]
  | .bit_0_B => [0xCB, 0x40]
  | .bit_0_C => [0xCB, 0x41]
  | .bit_0_D => [0xCB, 0x42]
  | .bit_0_E => [0xCB, 0x43]
  | .bit_0_H => [0xCB, 0x44]
  | .bit_0_L => [0xCB, 0x45]
  | .bit_0_mHL => [0xCB, 0x46]
  | .bit_0_A => [0xCB, 0x47]
  | .bit_1_B => [0xCB, 0x48]
  | .bit_1_C => [0xCB, 0x49]
  | .bit_1_D => [0xCB, 0x4A]
  | .bit_1_E => [0xCB, 0x4B]
  | .bit_1_H => [0xCB, 0x4C]
  | .bit_1_L => [0xCB, 0x4D]
  | .bit_1_mHL => [0xCB, 0x4E]
  | .bit_1_A => [0xCB, 0x4F]
  | .bit_2_B => [0xCB, 0x50]
  | .bit_2_C => [0xCB, 0x51]
  | .bit_2_D => [0xCB, 0x52]
  | .bit_2_E => [0xCB, 0x53]
  | .bit_2_H => [0xCB, 0x54]
  | .bit_2_L => [0xCB, 0x55]
  | .bit_2_mHL => [0xCB, 0x56]
  | .bit_2_A => [0xCB, 0x57]
  | .bit_3_B => [0xCB, 0x58]
  | .bit_3_C => [0xCB, 0x59]
  | .bit_3_D => [0xCB, 0x5A]
  | .bit_3_E => [0xCB, 0x5B]
  | .bit_3_H => [0xCB, 0x5C]
  | .bit_3_L => [0xCB, 0x5D]
  | .bit_3_mHL => [0xCB, 0x5E]
  | .bit_3_A => [0xCB, 0x5F]
  | .bit_4_B => [0xCB, 0x60]
  | .bit_4_C => [0xCB, 0x61]
  | .bit_4_D => [0xCB, 0x62]
  | .bit_4_E => [0xCB, 0x63]
  | .bit_4_H => [0xCB, 0x64]
  | .bit_4_L => [0xCB, 0x65]
  | .bit_4_mHL => [0xCB, 0x66]
  | .bit_4_A => [0xCB, 0x67]
  | .bit_5_B => [0xCB, 0x68]
  | .bit_5_C => [0xCB, 0x69]
  | .bit_5_D => [0xCB, 0x6A]
  | .bit_5_E => [0xCB, 0x6B]
  | .bit_5_H => [0xCB, 0x6C]
  | .bit_5_L => [0xCB, 0x6D]
  | .bit_5_mHL => [0xCB, 0x6E]
  | .bit_5_A => [0xCB, 0x6F]
  | .bit_6_B => [0xCB, 0x70]
  | .bit_6_C => [0xCB, 0x71]
  | .bit_6_D => [0xCB, 0x72]
  | .bit_6_E => [0xCB, 0x73]
  | .bit_6_H => [0xCB, 0x74]
  | .bit_6_L => [0xCB, 0x75]
  | .bit_6_mHL => [0xCB, 0x76]
  | .bit_6_A => [0xCB, 0x77]
  | .bit_7_B => [0xCB, 0x78]
  | .bit_7_C => [0xCB, 0x79]
  | .bit_7_D => [0xCB, 0x7A]
  | .bit_7_E => [0xCB, 0x7B]
  | .bit_7_H => [0xCB, 0x7C]
  | .bit_7_L => [0xCB, 0x7D]
  | .bit_7_mHL => [0xCB, 0x7E]
  | .bit_7_A => [0xCB, 0x7F]
  | .res_0_B => [0xCB, 0x80]
  | .res_0_C => [0xCB, 0x81]
  | .res_0_D => [0xCB, 0x82]
  | .res_0_E => [0xCB, 0x83]
  | .res_0_H => [0xCB, 0x84]
  | .res_0_L => [0xCB, 0x85]
  | .res_0_mHL => [0xCB, 0x86]
  | .res_0_A => [0xCB, 0x87]
  | .res_1_B => [0xCB, 0x88]
  | .res_1_C => [0xCB, 0x89]
  | .res_1_D => [0xCB, 0x8A]
  | .res_1_E => [0xCB, 0x8B]
  | .res_1_H => [0xCB, 0x8C]
  | .res_1_L => [0xCB, 0x8D]
  | .res_1_mHL => [0xCB, 0x8E]
  | .res_1_A => [0xCB, 0x8F]
  | .res_2_B => [0xCB, 0x90]
  | .res_2_C => [0xCB, 0x91]
  | .res_2_D => [0xCB, 0x92]
  | .res_2_E => [0xCB, 0x93]
  | .res_2_H => [0xCB, 0x94]
  | .res_2_L => [0xCB, 0x95]
  | .res_2_mHL => [0xCB, 0x96]
  | .res_2_A => [0xCB, 0x97]
  | .res_3_B => [0xCB, 0x98]
  | .res_3_C => [0xCB, 0x99]
  | .res_3_D => [0xCB, 0x9A]
  | .res_3_E => [0xCB, 0x9B]
  | .res_3_H => [0xCB, 0x9C]
  | .res_3_L => [0xCB, 0x9D]
  | .res_3_mHL => [0xCB, 0x9E]
  | .res_3_A => [0xCB, 0x9F]
  | .res_4_B => [0xCB, 0xA0]
  | .res_4_C => [0xCB, 0xA1]
  | .res_4_D => [0xCB, 0xA2]
  | .res_4_E => [0xCB, 0xA3]
  | .res_4_H => [0xCB, 0xA4]
  | .res_4_L => [0xCB, 0xA5]
  | .res_4_mHL => [0xCB, 0xA6]
  | .res_4_A => [0xCB, 0xA7]
  | .res_5_B => [0xCB, 0xA8]
  | .res_5_C => [0xCB, 0xA9]
  | .res_5_D => [0xCB, 0xAA]
  | .res_5_E => [0xCB, 0xAB]
  | .res_5_H => [0xCB, 0xAC]
  | .res_5_L => [0xCB, 0xAD]
  | .res_5_mHL => [0xCB, 0xAE]
  | .res_5_A => [0xCB, 0xAF]
  | .res_6_B => [0xCB, 0xB0]
  | .res_6_C => [0xCB, 0xB1]
  | .res_6_D => [0xCB, 0xB2]
  | .res_6_E => [0xCB, 0xB3]
  | .res_6_H => [0xCB, 0xB4]
  | .res_6_L => [0xCB, 0xB5]
  | .res_6_mHL => [0xCB, 0xB6]
  | .res_6_A => [0xCB, 0xB7]
  | .res_7_B => [0xCB, 0xB8]
  | .res_7_C => [0xCB, 0xB9]
  | .res_7_D => [0xCB, 0xBA]
  | .res_7_E => [0xCB, 0xBB]
  | .res_7_H => [0xCB, 0xBC]
  | .res_7_L => [0xCB, 0xBD]
  | .res_7_mHL => [0xCB, 0xBE]
  | .res_7_A => [0xCB, 0xBF]
  | .set_0_B => [0xCB, 0xC0]
  | .set_0_C => [0xCB, 0xC1]
  | .set_0_D => [0xCB, 0xC2]
  | .set_0_E => [0xCB, 0xC3]
  | .set_0_H => [0xCB, 0xC4]
  | .set_0_L => [0xCB, 0xC5]
  | .set_0_mHL => [0xCB, 0xC6]
  | .set_0_A => [0xCB, 0xC7]
  | .set_1_B => [0xCB, 0xC8]
  | .set_1_C => [0xCB, 0xC9]
  | .set_1_D => [0xCB, 0xCA]
  | .set_1_E => [0xCB, 0xCB]
  | .set_1_H => [0xCB, 0xCC]
  | .set_1_L => [0xCB, 0xCD]
  | .set_1_mHL => [0xCB, 0xCE]
  | .set_1_A => [0xCB, 0xCF]
  | .set_2_B => [0xCB, 0xD0]
  | .set_2_C => [0xCB, 0xD1]
  | .set_2_D => [0xCB, 0xD2]
  | .set_2_E => [0xCB, 0xD3]
  | .set_2_H => [0xCB, 0xD4]
  | .set_2_L => [0xCB, 0xD5]
  | .set_2_mHL => [0xCB, 0xD6]
  | .set_2_A => [0xCB, 0xD7]
  | .set_3_B => [0xCB, 0xD8]
  | .set_3_C => [0xCB, 0xD9]
  | .set_3_D => [0xCB, 0xDA]
  | .set_3_E => [0xCB, 0xDB]
  | .set_3_H => [0xCB, 0xDC]
  | .set_3_L => [0xCB, 0xDD]
  | .set_3_mHL => [0xCB, 0xDE]
  | .set_3_A => [0xCB, 0xDF]
  | .set_4_B => [0xCB, 0xE0]
  | .set_4_C => [0xCB, 0xE1]
  | .set_4_D => [0xCB, 0xE2]
  | .set_4_E => [0xCB, 0xE3]
  | .set_4_H => [0xCB, 0xE4]
  | .set_4_L => [0xCB, 0xE5]
  | .set_4_mHL => [0xCB, 0xE6]
  | .set_4_A => [0xCB, 0xE7]
  | .set_5_B => [0xCB, 0xE8]
  | .set_5_C => [0xCB, 0xE9]
  | .set_5_D => [0xCB, 0xEA]
  | .set_5_E => [0xCB, 0xEB]
  | .set_5_H => [0xCB, 0xEC]
  | .set_5_L => [0xCB, 0xED]
  | .set_5_mHL => [0xCB, 0xEE]
  | .set_5_A => [0xCB, 0xEF]
  | .set_6_B => [0xCB, 0xF0]
  | .set_6_C => [0xCB, 0xF1]
  | .set_6_D => [0xCB, 0xF2]
  | .set_6_E => [0xCB, 0xF3]
  | .set_6_H => [0xCB, 0xF4]
  | .set_6_L => [0xCB, 0xF5]
  | .set_6_mHL => [0xCB, 0xF6]
  | .set_6_A => [0xCB, 0xF7]
  | .set_7_B => [0xCB, 0xF8]
  | .set_7_C => [0xCB, 0xF9]
  | .set_7_D => [0xCB, 0xFA]
  | .set_7_E => [0xCB, 0xFB]
  | .set_7_H => [0xCB, 0xFC]
  | .set_7_L => [0xCB, 0xFD]
  | .set_7_mHL => [0xCB, 0xFE]
  | .set_7_A => [0xCB, 0xFF]

/-! ## Words numbered as spec/opcode_table.json numbers them -/

/-- The three bytes in memory order of the `nbits`-bit table word `w`, with zeros after it. A primary row is its one
byte. An extended row is `0xCB00 | byte` with the FIRST byte in the high half (R327), so a 16-bit word whose high half
is the prefix is read so; any other word has its first byte lowest. DESIGN CHOICE, log 10. -/
def tableBytes (nbits w : Nat) : List Byte :=
  let v := w % 2 ^ nbits
  if nbits = 16 ∧ v / 256 = 0xCB then [prefixByte, BitVec.ofNat 8 v, 0]
  else [BitVec.ofNat 8 v, BitVec.ofNat 8 (v / 256), BitVec.ofNat 8 (v / 65536)]

/-- What the decoder reads from a table word laid out in memory, with zero operand bytes above it. -/
def decodeTableWord (nbits w : Nat) : Option Instr :=
  match decode (tableBytes nbits w) with
  | .ok (i, _) => some i
  | .error _ => none

end Sys2Proof
end

