-- ==== Sys2Proof/Machine/State.lean ====
section
/-! DEFINITION. The state of the machine as plain data (spec/10_state.md), its value after reset, and the reasons a
step can stop. -/

namespace Sys2Proof.Machine

/-- The run state (R122). -/
inductive RunState where
  /-- The step fetches and executes an instruction. -/
  | running
  /-- Entered by HALT (R753). -/
  | halted
  /-- Entered by STOP (R754). -/
  | stopped
  /-- The terminal state an illegal opcode enters (R801). -/
  | haltedError
  deriving DecidableEq, Repr

/-- The decoder mode (R125): which table the next byte is dispatched in. Primary between steps. -/
inductive DecoderMode where
  | primary
  | extended
  deriving DecidableEq, Repr

/-- The contents of the error record, `IllegalOpcode(op, addr)` (R126). -/
structure IllegalOpcode where
  op : Byte
  addr : Word
  deriving DecidableEq, Repr

/-- What a step returns (R903). -/
inductive StepResult where
  /-- The step charged `n` T-cycles. -/
  | cycles (n : Nat)
  /-- The step reported an illegal opcode. -/
  | error (e : IllegalOpcode)
  deriving DecidableEq, Repr

/-- What the host gives the core with one step (R11, R819): the WAKE input, and, under `IRQ_MODEL = gb_standard`
only, a new value for bits 4 to 0 of IF that the host writes before the step. DESIGN CHOICE, log 4. -/
structure HostInput where
  wake : Bool
  ifBits : Option (BitVec 5)
  deriving DecidableEq, Repr

/-- No input: WAKE not asserted, IF not written. -/
def HostInput.none : HostInput := { wake := false, ifBits := .none }

/-- Memory: the bytes that differ from `Config.unlistedByte`, by address, addresses strictly rising (R200, R201). -/
abbrev Memory := List Host.Cell

/-- Everything the spec gives the machine. The pairs AF, BC, DE and HL are views, not storage (R101). -/
structure State where
  /-- Register A (R100). -/
  a : Byte
  /-- Register F: Z, N, H, C in bits 7 to 4, bits 3 to 0 zero (R113). -/
  f : Byte
  /-- Register B (R100). -/
  b : Byte
  /-- Register C (R100). -/
  c : Byte
  /-- Register D (R100). -/
  d : Byte
  /-- Register E (R100). -/
  e : Byte
  /-- Register H (R100). -/
  h : Byte
  /-- Register L (R100). -/
  l : Byte
  /-- The stack pointer (R110). -/
  sp : Word
  /-- The program counter (R111). -/
  pc : Word
  /-- The interrupt master enable (R123). -/
  ime : Bool
  /-- EI's pending latch (R124). -/
  eiPending : Bool
  /-- The copy of `eiPending` a step takes at its start (R756, R902). False between steps. -/
  apply : Bool
  /-- The run state (R122). -/
  run : RunState
  /-- The decoder mode (R125). -/
  mode : DecoderMode
  /-- The error record (R126). -/
  err : Option IllegalOpcode
  /-- Memory (R200). -/
  mem : Memory
  /-- The parameters CB_TIMING and IRQ_MODEL (R11). No step changes them. -/
  params : Params
  /-- The host's inputs for the coming steps, the next step's first; past the end there is none (R819, log 4). -/
  inputs : List HostInput
  /-- What the last step returned (R903); none before the first step. The model's own field, log 5. -/
  result : Option StepResult
  deriving DecidableEq, Repr

/-- The machine right after power-on (R128, R129, R960), before the host has loaded an image (R130, R950), with the
default parameters (R11) and no input. -/
def State.reset : State where
  a := 0x01
  f := 0xB0
  b := 0x00
  c := 0x13
  d := 0x00
  e := 0xD8
  h := 0x01
  l := 0x4D
  sp := 0xFFFE
  pc := 0x0000
  ime := false
  eiPending := false
  apply := false
  run := .running
  mode := .primary
  err := none
  mem := []
  params := .default
  inputs := []
  result := none

/-- The reasons a step can fault: none. No access faults (R202, R212), no arithmetic condition is an exception (R804),
and an illegal opcode is an exception the machine takes, with a next state (R801). -/
inductive Fault : Type
  deriving DecidableEq, Repr

/-- The reasons a step can be refused. -/
inductive Refusal where
  /-- Raised by `exec` alone, for an instruction with no meaning yet, named by its row's mnemonic. Safe: the machine
  stops where the hardware goes on. No arm of this model raises it. -/
  | notModelled (mnemonic : String)
  deriving DecidableEq, Repr

/-- The outcome of a step or of an instruction. -/
abbrev Out := Host.Outcome State Fault Refusal

end Sys2Proof.Machine
end

