-- ==== Sys2Proof/Machine/Ops.lean ====
section
/-! DEFINITION. The named operations over memory, the stack and the control state: memory access (spec/20_memory.md),
push and pop (46_stack.md), taking an exception and an interrupt (60_exceptions.md), fetching an instruction and the
parts of a step (70_reset_and_hazards.md). -/

namespace Sys2Proof.Machine

/-! ## Memory -/

/-- The byte at an address: its entry, or what an unlisted address reads as (R202). -/
def Memory.readAt : Memory → Nat → Byte
  | [], _ => Config.unlistedByte
  | (k, v) :: rest, a =>
    if a < k then Config.unlistedByte else if a = k then v else Memory.readAt rest a

/-- An entry in front of a memory, left out where it says what an unlisted address reads as. -/
def Memory.cons (a : Nat) (v : Byte) (m : Memory) : Memory :=
  if v = Config.unlistedByte then m else (a, v) :: m

/-- Store a byte, keeping the canonical form (R202). -/
def Memory.writeAt : Memory → Nat → Byte → Memory
  | [], a, v => Memory.cons a v []
  | (k, w) :: rest, a, v =>
    if a < k then Memory.cons a v ((k, w) :: rest)
    else if a = k then Memory.cons a v rest
    else (k, w) :: Memory.writeAt rest a v

/-- The memory whose bytes from address `k` up are the given ones (R950). -/
def Memory.ofBytes : Nat → List Byte → Memory
  | _, [] => []
  | k, v :: rest => Memory.cons k v (Memory.ofBytes (k + 1) rest)

/-- The canonical form from address `lo` up: addresses strictly rising and inside the address space, no entry equal
to what an unlisted address reads as. -/
def Memory.wfFrom : Nat → Memory → Bool
  | _, [] => true
  | lo, (k, v) :: rest =>
    decide (lo ≤ k) && decide (k < Config.memorySize) && decide (v ≠ Config.unlistedByte) &&
      Memory.wfFrom (k + 1) rest

/-- The canonical form of memory. -/
def Memory.wf (m : Memory) : Bool := Memory.wfFrom 0 m

/-- `MemRead(a, 1)` (R14). Total over the address space (R202). -/
def State.memRead (s : State) (a : Word) : Byte := s.mem.readAt a.toNat

/-- `MemWrite(a, 1, v)` (R14). -/
def State.memWrite (s : State) (a : Word) (v : Byte) : State := { s with mem := s.mem.writeAt a.toNat v }

/-- `MemRead(a, 2)`: little-endian, the second byte at a + 1 modulo 2^16 (R14, R204, R207). -/
def State.memRead16 (s : State) (a : Word) : Word := wordOf (s.memRead (a + 1)) (s.memRead a)

/-- `MemWrite(a, 2, v)`: the low byte at a, the high byte at a + 1 modulo 2^16 (R14, R205, R207). -/
def State.memWrite16 (s : State) (a v : Word) : State := (s.memWrite a (loByte v)).memWrite (a + 1) (hiByte v)

/-! ## Stack (R700, R701) -/

/-- Move SP. -/
def State.setSp (s : State) (v : Word) : State := { s with sp := v }

/-- `push16(v)`: SP down by one, the high byte there, SP down by one, the low byte there (R700). -/
def State.push16 (s : State) (v : Word) : State :=
  let s := s.setSp (s.sp - 1)
  let s := s.memWrite s.sp (hiByte v)
  let s := s.setSp (s.sp - 1)
  s.memWrite s.sp (loByte v)

/-- `pop16()`: the word at SP, low byte first, and the state with SP two higher (R701). -/
def State.pop16 (s : State) : Word × State :=
  let lo := s.memRead s.sp
  let s := s.setSp (s.sp + 1)
  let hi := s.memRead s.sp
  let s := s.setSp (s.sp + 1)
  (wordOf hi lo, s)

/-! ## Control -/

/-- `PC <- target` (R18). -/
def State.setPc (s : State) (v : Word) : State := { s with pc := v }

/-- `cost(n)`: the step returns `Cycles(n)` (R18, R903). -/
def State.charge (n : Nat) (s : State) : State := { s with result := some (.cycles n) }

/-- Raise IllegalOpcode (R801): record the byte and the address it was fetched from, enter HaltedError and return the
error. An instruction sees PC past its own bytes, and an illegal one has one byte, so its address is PC - 1 and PC
is left past it. The step does not reach its end, so `apply` is lost (R902). Nothing returns from it (R805, R810). -/
def State.raiseIllegal (op : Byte) (s : State) : State :=
  let e : IllegalOpcode := { op := op, addr := s.pc - 1 }
  { s with run := .haltedError, err := some e, apply := false, result := some (.error e) }

/-! ## Fetch (R15, R301, R303) -/

/-- The prefix has been read: read one byte, dispatch it in the extended table, and return to primary mode (R303). -/
def State.fetchExtended (s : State) : Instr × State :=
  (decodeExtended (s.memRead s.pc), { s with pc := s.pc + 1, mode := .primary })

/-- Read one byte and dispatch on it in the primary table (R301), with its operand bytes. Reads have no side effect
(R209), so the two bytes after the opcode are read whether or not the instruction has them, and PC moves by the
instruction's length (R111, R112). -/
def State.fetchPrimary (s : State) : Instr × State :=
  let op := s.memRead s.pc
  if op = prefixByte then State.fetchExtended { s with pc := s.pc + 1, mode := .extended }
  else
    (decodePrimary op (s.memRead (s.pc + 1)) (s.memRead (s.pc + 2)),
      { s with pc := s.pc + BitVec.ofNat 16 (instrLength op) })

/-- Fetch and decode in the current table (R301). -/
def State.fetch (s : State) : Instr × State :=
  match s.mode with
  | .primary => s.fetchPrimary
  | .extended => s.fetchExtended

/-! ## The parts of a step (R900) -/

/-- `apply <- ei_pending; ei_pending <- 0` (R900 step 4, R902). -/
def State.beginInstr (s : State) : State := { s with apply := s.eiPending, eiPending := false }

/-- `if apply = 1: IME <- 1` (R900 step 7, R902). `apply` ends with the step. -/
def State.endInstr (s : State) : State := { s with ime := s.ime || s.apply, apply := false }

/-- The address of IF, the interrupt requests (R808). -/
def ifAddr : Word := 0xFF0F

/-- The address of IE, the interrupt enables (R808). -/
def ieAddr : Word := 0xFFFF

/-- `p = IE & IF & 0x1F` (R808). -/
def State.irqPending (s : State) : Byte := s.memRead ieAddr &&& s.memRead ifAddr &&& 0x1F

/-- The lowest set bit of `p` among bits 0 to 4; bit 0 has the highest priority (R808). -/
def lowestIrq (p : Byte) : Nat :=
  if p.getLsbD 0 then 0
  else if p.getLsbD 1 then 1
  else if p.getLsbD 2 then 2
  else if p.getLsbD 3 then 3
  else 4

/-- The vector of source `i`: `0x0040 + 8*i` (R808). -/
def irqVector (i : Nat) : Word := BitVec.ofNat 16 (0x40 + 8 * i)

/-- The interrupt dispatch step (R808, R809): clear the request, clear IME and `ei_pending`, push PC, go to the vector. -/
def State.takeInterrupt (s : State) : State :=
  let i := lowestIrq s.irqPending
  let s := { s with run := .running }
  let s := s.memWrite ifAddr (s.memRead ifAddr &&& ~~~(BitVec.ofNat 8 (2 ^ i)))
  let s := { s with ime := false, eiPending := false }
  let s := s.push16 s.pc
  (s.setPc (irqVector i)).charge 20

/-- The wake step: back to Running, executing nothing, cost 4 (R808, R901). -/
def State.wakeStep (s : State) : State := State.charge 4 { s with run := .running }

/-- The sleeping step: nothing changes, cost 4 (R901). -/
def State.sleepStep (s : State) : State := s.charge 4

/-- A step in HaltedError returns the recorded error and changes nothing (R805). With no record, which no run reaches,
there is no error to return (log 6). -/
def State.repeatError (s : State) : State := { s with result := s.err.map .error }

/-- What a step is, decided at its start (R900 steps 1 to 3). -/
inductive StepKind where
  /-- R805: the step of HaltedError. -/
  | repeatError
  /-- R808: an interrupt dispatch. -/
  | dispatch
  /-- R808, R901: Halted or Stopped is left, by a pending interrupt or by WAKE. -/
  | wake
  /-- R901: Halted or Stopped goes on. -/
  | sleep
  /-- R900 steps 4 to 8: an instruction. -/
  | execute
  deriving DecidableEq, Repr

/-- Is an enabled interrupt pending that the core looks at (R807, R808)? -/
def State.irqSeen (s : State) : Bool :=
  decide (s.params.irqModel = .gbStandard) && decide (s.irqPending ≠ 0)

/-- Which step this is, from the state and this step's WAKE, in the order of R900 (R805, R808, R901, 90_conflicts.md
C12). -/
def State.stepKind (s : State) (wake : Bool) : StepKind :=
  match s.run with
  | .haltedError => .repeatError
  | .running => if s.irqSeen && s.ime then .dispatch else .execute
  | .halted =>
    if s.irqSeen && s.ime then .dispatch
    else if s.irqSeen || wake then .wake
    else .sleep
  | .stopped => if wake then .wake else .sleep

/-- The host's input for this step (R819, log 4). -/
def State.input (s : State) : HostInput := s.inputs.headD .none

/-- The state a step starts from: the host's input taken from the list and, under `gb_standard` only, its value written
to bits 4 to 0 of IF (R219, R819, log 4). -/
def State.takeInput (s : State) : State :=
  let t := { s with inputs := s.inputs.tail }
  match s.params.irqModel, s.input.ifBits with
  | .gbStandard, some v => t.memWrite ifAddr ((s.memRead ifAddr &&& 0xE0) ||| v.setWidth 8)
  | _, _ => t

/-! ## Creating a machine (R950, R956, R960) -/

/-- `create(IMAGE)` with the given parameters: the power-on state with memory filled from the image, one byte for each
address from 0x0000 up (R950, R956, R960). -/
def create (params : Params) (image : List Byte) : State :=
  { State.reset with params := params, mem := Memory.ofBytes 0 image }

end Sys2Proof.Machine
end

