-- ==== Sys2Proof/Machine/Operands.lean ====
section
/-! DEFINITION. Registers, register pairs and operands: every operand form of spec/30_encoding.md R310 to R318 and every
addressing mode of 44_loads.md R613. -/

namespace Sys2Proof.Machine

/-! ## Registers (R100 to R106) -/

/-- Read an 8-bit register. -/
def State.getR8 (s : State) : R8 → Byte
  | .a => s.a
  | .b => s.b
  | .c => s.c
  | .d => s.d
  | .e => s.e
  | .h => s.h
  | .l => s.l

/-- Write an 8-bit register (R106). -/
def State.setR8 (s : State) (r : R8) (v : Byte) : State :=
  match r with
  | .a => { s with a := v }
  | .b => { s with b := v }
  | .c => { s with c := v }
  | .d => { s with d := v }
  | .e => { s with e := v }
  | .h => { s with h := v }
  | .l => { s with l := v }

/-- Write F. Bits 3 to 0 are masked to zero on every write (R114). -/
def State.setF (s : State) (v : Byte) : State := { s with f := v &&& 0xF0 }

/-- The pair AF (R102, R103). -/
def State.af (s : State) : Word := wordOf s.a s.f

/-- The pair BC (R102, R103). -/
def State.bc (s : State) : Word := wordOf s.b s.c

/-- The pair DE (R102, R103). -/
def State.de (s : State) : Word := wordOf s.d s.e

/-- The pair HL (R102, R103). -/
def State.hl (s : State) : Word := wordOf s.h s.l

/-- Write HL, both halves at once (R104). -/
def State.setHl (s : State) (v : Word) : State := { s with h := hiByte v, l := loByte v }

/-- Read `R16SP[p]` (R311). -/
def State.getR16 (s : State) : R16 → Word
  | .bc => s.bc
  | .de => s.de
  | .hl => s.hl
  | .sp => s.sp

/-- Write `R16SP[p]` (R104, R311). -/
def State.setR16 (s : State) (r : R16) (v : Word) : State :=
  match r with
  | .bc => { s with b := hiByte v, c := loByte v }
  | .de => { s with d := hiByte v, e := loByte v }
  | .hl => s.setHl v
  | .sp => s.setSp v

/-- Read `R16STK[p]` (R312). -/
def State.getStk (s : State) : R16Stk → Word
  | .bc => s.bc
  | .de => s.de
  | .hl => s.hl
  | .af => s.af

/-- Write `R16STK[p]`; the write to F is masked (R104, R114, R312). -/
def State.setStk (s : State) (r : R16Stk) (v : Word) : State :=
  match r with
  | .bc => s.setR16 .bc v
  | .de => s.setR16 .de v
  | .hl => s.setR16 .hl v
  | .af => (s.setR8 .a (hiByte v)).setF (loByte v)

/-! ## Operands in registers or memory -/

/-- `get(z)`: read `R8[z]`, for z = 6 the byte at HL (R310, R504). -/
def State.getOpnd (s : State) : Opnd8 → Byte
  | .reg r => s.getR8 r
  | .mHL => s.memRead s.hl

/-- `put(z, v)`: write `R8[z]`, for z = 6 the byte at HL (R310, R504). -/
def State.putOpnd (s : State) (o : Opnd8) (v : Byte) : State :=
  match o with
  | .reg r => s.setR8 r v
  | .mHL => s.memWrite s.hl v

/-- The value of an ALU source (R402 to R425). -/
def State.getSrc (s : State) : AluSrc → Byte
  | .opnd o => s.getOpnd o
  | .imm n => n

/-- The address of `R16MEM[p]` (R313, R613). -/
def State.memAddr (s : State) : R16Mem → Word
  | .bc => s.bc
  | .de => s.de
  | .hlInc => s.hl
  | .hlDec => s.hl

/-- The change to HL after an access through `R16MEM[p]`, modulo 2^16 (R313, R613). -/
def State.memAddrAfter (s : State) : R16Mem → State
  | .bc => s
  | .de => s
  | .hlInc => s.setHl (s.hl + 1)
  | .hlDec => s.setHl (s.hl - 1)

/-- The address `0xFF00 + a` of LDH and LD (C) (R318, R613). -/
def highPage (a : Byte) : Word := 0xFF00 + a.setWidth 16

/-- `sext_16` (R16). -/
def sext16 (v : Byte) : Word := if v.getLsbD 7 then v.setWidth 16 + 0xFF00 else v.setWidth 16

/-- `jump_relative(d)`: `PC <- (PC + sext_16(d)) mod 2^16` (R320, R650, R661). -/
def State.jumpRelative (s : State) (d : Byte) : State := s.setPc (s.pc + sext16 d)

end Sys2Proof.Machine
end

