-- ==== Sys2Proof/Machine/Flags.lean ====
section
/-! DEFINITION. The flags and every flag computation: the flag accessors (spec/10_state.md R113 to R115), `flags(z, n, h, c)`
(00_scope.md R17), the conditions (30_encoding.md R314), and the pure functions of the ALU (40_alu8.md, 41_alu16.md,
42_rotate_shift_bit.md, 43_misc_alu.md), which read no state. -/

namespace Sys2Proof.Machine

/-! ## The flag register -/

/-- ZF, bit 7 of F (R113). -/
def State.zf (s : State) : Bool := s.f.getLsbD 7

/-- NF, bit 6 of F (R113). -/
def State.nf (s : State) : Bool := s.f.getLsbD 6

/-- HF, bit 5 of F (R113). -/
def State.hf (s : State) : Bool := s.f.getLsbD 5

/-- CF, bit 4 of F (R113). -/
def State.cf (s : State) : Bool := s.f.getLsbD 4

/-- The byte with the four flags in its high nibble and zero below (R113). -/
def flagByte (z n h c : Bool) : Byte :=
  (if z then 0x80#8 else 0) ||| (if n then 0x40#8 else 0) ||| (if h then 0x20#8 else 0) ||| (if c then 0x10#8 else 0)

/-- `flags(z, n, h, c)`: write the four flags at once; `none` stands for `-`, which leaves a flag unchanged (R17). -/
def State.flags (s : State) (z n h c : Option Bool) : State :=
  s.setF (flagByte (z.getD s.zf) (n.getD s.nf) (h.getD s.hf) (c.getD s.cf))

/-- `cond(cc)`, on F as it stands (R314, R904). -/
def State.cond (s : State) : Cond → Bool
  | .nz => !s.zf
  | .z => s.zf
  | .nc => !s.cf
  | .c => s.cf

/-! ## 8-bit arithmetic and logic -/

/-- An 8-bit result with the four flags it gives. -/
structure AluOut where
  res : Byte
  z : Bool
  n : Bool
  h : Bool
  c : Bool
  deriving DecidableEq, Repr

/-- `add8(a, b, cin)` (R400). -/
def add8 (a b : Byte) (cin : Bool) : AluOut :=
  let t := a.toNat + b.toNat + cin.toNat
  let res := BitVec.ofNat 8 t
  { res := res
    z := decide (res = 0)
    n := false
    h := decide (a.toNat % 16 + b.toNat % 16 + cin.toNat > 0xF)
    c := decide (t > 0xFF) }

/-- `sub8(a, b, cin)`: the difference is an exact integer, possibly negative (R401). -/
def sub8 (a b : Byte) (cin : Bool) : AluOut :=
  let t : Int := (a.toNat : Int) - (b.toNat : Int) - (cin.toNat : Int)
  let res := BitVec.ofInt 8 t
  { res := res
    z := decide (res = 0)
    n := true
    h := decide (((a.toNat % 16 : Nat) : Int) - ((b.toNat % 16 : Nat) : Int) - (cin.toNat : Int) < 0)
    c := decide (t < 0) }

/-- The result of AND with its flags (R414). -/
def and8 (a b : Byte) : AluOut := { res := a &&& b, z := decide (a &&& b = 0), n := false, h := true, c := false }

/-- The result of XOR with its flags (R417). -/
def xor8 (a b : Byte) : AluOut := { res := a ^^^ b, z := decide (a ^^^ b = 0), n := false, h := false, c := false }

/-- The result of OR with its flags (R420). -/
def or8 (a b : Byte) : AluOut := { res := a ||| b, z := decide (a ||| b = 0), n := false, h := false, c := false }

/-- `ALU[y]` of A, the operand and CF (R315). CP computes what SUB does (R423). -/
def alu (op : AluOp) (a v : Byte) (cf : Bool) : AluOut :=
  match op with
  | .add => add8 a v false
  | .adc => add8 a v cf
  | .sub => sub8 a v false
  | .sbc => sub8 a v cf
  | .and => and8 a v
  | .xor => xor8 a v
  | .or => or8 a v
  | .cp => sub8 a v false

/-- 8-bit INC: the result, and Z and H (R426). -/
def inc8 (v : Byte) : Byte × Bool × Bool := (v + 1, decide (v + 1 = 0), decide (v &&& 0xF = 0xF))

/-- 8-bit DEC: the result, and Z and H (R428). -/
def dec8 (v : Byte) : Byte × Bool × Bool := (v - 1, decide (v - 1 = 0), decide (v &&& 0xF = 0x0))

/-! ## 16-bit arithmetic -/

/-- ADD HL,rr: the result, H from bit 11 and C from bit 15 (R454). -/
def add16 (hl rr : Word) : Word × Bool × Bool :=
  let t := hl.toNat + rr.toNat
  (BitVec.ofNat 16 t, decide (hl.toNat % 0x1000 + rr.toNat % 0x1000 > 0x0FFF), decide (t > 0xFFFF))

/-- `spe8(sp, e)`: the result, H from bit 3 and C from bit 7 of the unsigned low-byte sum (R455). -/
def spe8 (sp : Word) (e : Byte) : Word × Bool × Bool :=
  (sp + sext16 e, decide (sp.toNat % 16 + e.toNat % 16 > 0x0F), decide (sp.toNat % 256 + e.toNat > 0xFF))

/-! ## Rotates, shifts and bits -/

/-- `ROT[y]` of a byte and CF: the result and the new C (R505 to R520). -/
def rotate (op : RotOp) (v : Byte) (cf : Bool) : Byte × Bool :=
  let in0 (b : Bool) : Byte := if b then 0x01 else 0
  let in7 (b : Bool) : Byte := if b then 0x80 else 0
  match op with
  | .rlc => (v <<< 1 ||| in0 (v.getLsbD 7), v.getLsbD 7)
  | .rrc => (v >>> 1 ||| in7 (v.getLsbD 0), v.getLsbD 0)
  | .rl => (v <<< 1 ||| in0 cf, v.getLsbD 7)
  | .rr => (v >>> 1 ||| in7 cf, v.getLsbD 0)
  | .sla => (v <<< 1, v.getLsbD 7)
  | .sra => (v >>> 1 ||| (v &&& 0x80), v.getLsbD 0)
  | .swap => ((v &&& 0x0F) <<< 4 ||| v >>> 4, false)
  | .srl => (v >>> 1, v.getLsbD 0)

/-- `1 << b` (R523, R525). -/
def bitMask (b : Fin 8) : Byte := 1#8 <<< b.val

/-! ## Decimal adjust -/

/-- DAA (R550): the new A and the new C. `a` is an exact integer until it is reduced modulo 2^8. -/
def daa (a : Byte) (n h c : Bool) : Byte × Bool :=
  let a0 : Int := (a.toNat : Int)
  if n then
    let a1 := if c then a0 - 0x60 else a0
    let a2 := if h then a1 - 0x06 else a1
    (BitVec.ofInt 8 a2, c)
  else
    let fix := c || decide (a.toNat > 0x99)
    let a1 := if fix then a0 + 0x60 else a0
    let a2 := if h || decide (a.toNat % 16 > 0x09) then a1 + 0x06 else a1
    (BitVec.ofInt 8 a2, fix)

end Sys2Proof.Machine
end

