-- ==== Sys2Proof/Machine/Alu16.lean ====
section
/-! DEFINITION. 16-bit arithmetic (spec/41_alu16.md): INC rr, DEC rr, ADD HL,rr, ADD SP,e8, LD HL,SP+e8. -/

namespace Sys2Proof.Machine

/-- INC rr, modulo 2^16; no flags (R450). -/
def inc16Op (r : R16) (s : State) : State := (s.setR16 r (s.getR16 r + 1)).charge 8

/-- DEC rr, modulo 2^16; no flags (R451). -/
def dec16Op (r : R16) (s : State) : State := (s.setR16 r (s.getR16 r - 1)).charge 8

/-- ADD HL,rr: Z unchanged (R454). -/
def addHlOp (r : R16) (s : State) : State :=
  let (res, h, c) := add16 s.hl (s.getR16 r)
  ((s.setHl res).flags none (some false) (some h) (some c)).charge 8

/-- ADD SP,e8: Z and N cleared (R452). -/
def addSpOp (e : Byte) (s : State) : State :=
  let (res, h, c) := spe8 s.sp e
  ((s.setSp res).flags (some false) (some false) (some h) (some c)).charge 16

/-- LD HL,SP+e8: Z and N cleared, SP unchanged (R453). -/
def ldHlSpOp (e : Byte) (s : State) : State :=
  let (res, h, c) := spe8 s.sp e
  ((s.setHl res).flags (some false) (some false) (some h) (some c)).charge 12

/-! ## One meaning per row -/

/-- `INC BC` (R450). -/
def exec_inc_BC (s : State) : Out := .next (inc16Op .bc s)

/-- `ADD HL,BC` (R454). -/
def exec_add_HL_BC (s : State) : Out := .next (addHlOp .bc s)

/-- `DEC BC` (R451). -/
def exec_dec_BC (s : State) : Out := .next (dec16Op .bc s)

/-- `INC DE` (R450). -/
def exec_inc_DE (s : State) : Out := .next (inc16Op .de s)

/-- `ADD HL,DE` (R454). -/
def exec_add_HL_DE (s : State) : Out := .next (addHlOp .de s)

/-- `DEC DE` (R451). -/
def exec_dec_DE (s : State) : Out := .next (dec16Op .de s)

/-- `INC HL` (R450). -/
def exec_inc_HL (s : State) : Out := .next (inc16Op .hl s)

/-- `ADD HL,HL` (R454). -/
def exec_add_HL_HL (s : State) : Out := .next (addHlOp .hl s)

/-- `DEC HL` (R451). -/
def exec_dec_HL (s : State) : Out := .next (dec16Op .hl s)

/-- `INC SP` (R450). -/
def exec_inc_SP (s : State) : Out := .next (inc16Op .sp s)

/-- `ADD HL,SP` (R454). -/
def exec_add_HL_SP (s : State) : Out := .next (addHlOp .sp s)

/-- `DEC SP` (R451). -/
def exec_dec_SP (s : State) : Out := .next (dec16Op .sp s)

/-- `ADD SP,e8` (R452). -/
def exec_add_SP_e8 (e : Byte) (s : State) : Out := .next (addSpOp e s)

/-- `LD HL,SP+e8` (R453). -/
def exec_ld_HL_SPe8 (e : Byte) (s : State) : Out := .next (ldHlSpOp e s)

end Sys2Proof.Machine
end

