-- ==== Sys2Proof/Machine/Alu8.lean ====
section
/-! DEFINITION. 8-bit arithmetic and logic (spec/40_alu8.md): ADD, ADC, SUB, SBC, AND, XOR, OR, CP, INC, DEC. Three shared
operations, then one meaning per row. An instruction sees PC past its own bytes (R301). -/

namespace Sys2Proof.Machine

/-- The cost of an ALU instruction by its source: 4 for a register, 8 for (HL) or an immediate (R402 to R425). -/
def aluCost : AluSrc → Nat
  | .opnd (.reg _) => 4
  | .opnd .mHL => 8
  | .imm _ => 8

/-- `ALU[y]` on A and a source: A takes the result, but for CP, and the four flags are written (R402 to R425). -/
def aluOp (op : AluOp) (src : AluSrc) (s : State) : State :=
  let out := alu op s.a (s.getSrc src) s.cf
  let t := match op with
    | .cp => s
    | _ => s.setR8 .a out.res
  (t.flags (some out.z) (some out.n) (some out.h) (some out.c)).charge (aluCost src)

/-- The cost of 8-bit INC and DEC: 4 for a register, 12 for (HL) (R426 to R429). -/
def incDecCost : Opnd8 → Nat
  | .reg _ => 4
  | .mHL => 12

/-- INC of a register or of the byte at HL; C unchanged (R426, R427). -/
def inc8Op (o : Opnd8) (s : State) : State :=
  let (res, z, h) := inc8 (s.getOpnd o)
  ((s.putOpnd o res).flags (some z) (some false) (some h) none).charge (incDecCost o)

/-- DEC of a register or of the byte at HL; C unchanged (R428, R429). -/
def dec8Op (o : Opnd8) (s : State) : State :=
  let (res, z, h) := dec8 (s.getOpnd o)
  ((s.putOpnd o res).flags (some z) (some true) (some h) none).charge (incDecCost o)

/-! ## One meaning per row -/

/-- `INC B` (R426). -/
def exec_inc_B (s : State) : Out := .next (inc8Op (.reg .b) s)

/-- `DEC B` (R428). -/
def exec_dec_B (s : State) : Out := .next (dec8Op (.reg .b) s)

/-- `INC C` (R426). -/
def exec_inc_C (s : State) : Out := .next (inc8Op (.reg .c) s)

/-- `DEC C` (R428). -/
def exec_dec_C (s : State) : Out := .next (dec8Op (.reg .c) s)

/-- `INC D` (R426). -/
def exec_inc_D (s : State) : Out := .next (inc8Op (.reg .d) s)

/-- `DEC D` (R428). -/
def exec_dec_D (s : State) : Out := .next (dec8Op (.reg .d) s)

/-- `INC E` (R426). -/
def exec_inc_E (s : State) : Out := .next (inc8Op (.reg .e) s)

/-- `DEC E` (R428). -/
def exec_dec_E (s : State) : Out := .next (dec8Op (.reg .e) s)

/-- `INC H` (R426). -/
def exec_inc_H (s : State) : Out := .next (inc8Op (.reg .h) s)

/-- `DEC H` (R428). -/
def exec_dec_H (s : State) : Out := .next (dec8Op (.reg .h) s)

/-- `INC L` (R426). -/
def exec_inc_L (s : State) : Out := .next (inc8Op (.reg .l) s)

/-- `DEC L` (R428). -/
def exec_dec_L (s : State) : Out := .next (dec8Op (.reg .l) s)

/-- `INC (HL)` (R427). -/
def exec_inc_mHL (s : State) : Out := .next (inc8Op .mHL s)

/-- `DEC (HL)` (R429). -/
def exec_dec_mHL (s : State) : Out := .next (dec8Op .mHL s)

/-- `INC A` (R426). -/
def exec_inc_A (s : State) : Out := .next (inc8Op (.reg .a) s)

/-- `DEC A` (R428). -/
def exec_dec_A (s : State) : Out := .next (dec8Op (.reg .a) s)

/-- `ADD A,B` (R402). -/
def exec_add_A_B (s : State) : Out := .next (aluOp .add (.opnd (.reg .b)) s)

/-- `ADD A,C` (R402). -/
def exec_add_A_C (s : State) : Out := .next (aluOp .add (.opnd (.reg .c)) s)

/-- `ADD A,D` (R402). -/
def exec_add_A_D (s : State) : Out := .next (aluOp .add (.opnd (.reg .d)) s)

/-- `ADD A,E` (R402). -/
def exec_add_A_E (s : State) : Out := .next (aluOp .add (.opnd (.reg .e)) s)

/-- `ADD A,H` (R402). -/
def exec_add_A_H (s : State) : Out := .next (aluOp .add (.opnd (.reg .h)) s)

/-- `ADD A,L` (R402). -/
def exec_add_A_L (s : State) : Out := .next (aluOp .add (.opnd (.reg .l)) s)

/-- `ADD A,(HL)` (R403). -/
def exec_add_A_mHL (s : State) : Out := .next (aluOp .add (.opnd .mHL) s)

/-- `ADD A,A` (R402). -/
def exec_add_A_A (s : State) : Out := .next (aluOp .add (.opnd (.reg .a)) s)

/-- `ADC A,B` (R405). -/
def exec_adc_A_B (s : State) : Out := .next (aluOp .adc (.opnd (.reg .b)) s)

/-- `ADC A,C` (R405). -/
def exec_adc_A_C (s : State) : Out := .next (aluOp .adc (.opnd (.reg .c)) s)

/-- `ADC A,D` (R405). -/
def exec_adc_A_D (s : State) : Out := .next (aluOp .adc (.opnd (.reg .d)) s)

/-- `ADC A,E` (R405). -/
def exec_adc_A_E (s : State) : Out := .next (aluOp .adc (.opnd (.reg .e)) s)

/-- `ADC A,H` (R405). -/
def exec_adc_A_H (s : State) : Out := .next (aluOp .adc (.opnd (.reg .h)) s)

/-- `ADC A,L` (R405). -/
def exec_adc_A_L (s : State) : Out := .next (aluOp .adc (.opnd (.reg .l)) s)

/-- `ADC A,(HL)` (R406). -/
def exec_adc_A_mHL (s : State) : Out := .next (aluOp .adc (.opnd .mHL) s)

/-- `ADC A,A` (R405). -/
def exec_adc_A_A (s : State) : Out := .next (aluOp .adc (.opnd (.reg .a)) s)

/-- `SUB B` (R408). -/
def exec_sub_B (s : State) : Out := .next (aluOp .sub (.opnd (.reg .b)) s)

/-- `SUB C` (R408). -/
def exec_sub_C (s : State) : Out := .next (aluOp .sub (.opnd (.reg .c)) s)

/-- `SUB D` (R408). -/
def exec_sub_D (s : State) : Out := .next (aluOp .sub (.opnd (.reg .d)) s)

/-- `SUB E` (R408). -/
def exec_sub_E (s : State) : Out := .next (aluOp .sub (.opnd (.reg .e)) s)

/-- `SUB H` (R408). -/
def exec_sub_H (s : State) : Out := .next (aluOp .sub (.opnd (.reg .h)) s)

/-- `SUB L` (R408). -/
def exec_sub_L (s : State) : Out := .next (aluOp .sub (.opnd (.reg .l)) s)

/-- `SUB (HL)` (R409). -/
def exec_sub_mHL (s : State) : Out := .next (aluOp .sub (.opnd .mHL) s)

/-- `SUB A` (R408). -/
def exec_sub_A (s : State) : Out := .next (aluOp .sub (.opnd (.reg .a)) s)

/-- `SBC A,B` (R411). -/
def exec_sbc_A_B (s : State) : Out := .next (aluOp .sbc (.opnd (.reg .b)) s)

/-- `SBC A,C` (R411). -/
def exec_sbc_A_C (s : State) : Out := .next (aluOp .sbc (.opnd (.reg .c)) s)

/-- `SBC A,D` (R411). -/
def exec_sbc_A_D (s : State) : Out := .next (aluOp .sbc (.opnd (.reg .d)) s)

/-- `SBC A,E` (R411). -/
def exec_sbc_A_E (s : State) : Out := .next (aluOp .sbc (.opnd (.reg .e)) s)

/-- `SBC A,H` (R411). -/
def exec_sbc_A_H (s : State) : Out := .next (aluOp .sbc (.opnd (.reg .h)) s)

/-- `SBC A,L` (R411). -/
def exec_sbc_A_L (s : State) : Out := .next (aluOp .sbc (.opnd (.reg .l)) s)

/-- `SBC A,(HL)` (R412). -/
def exec_sbc_A_mHL (s : State) : Out := .next (aluOp .sbc (.opnd .mHL) s)

/-- `SBC A,A` (R411). -/
def exec_sbc_A_A (s : State) : Out := .next (aluOp .sbc (.opnd (.reg .a)) s)

/-- `AND B` (R414). -/
def exec_and_B (s : State) : Out := .next (aluOp .and (.opnd (.reg .b)) s)

/-- `AND C` (R414). -/
def exec_and_C (s : State) : Out := .next (aluOp .and (.opnd (.reg .c)) s)

/-- `AND D` (R414). -/
def exec_and_D (s : State) : Out := .next (aluOp .and (.opnd (.reg .d)) s)

/-- `AND E` (R414). -/
def exec_and_E (s : State) : Out := .next (aluOp .and (.opnd (.reg .e)) s)

/-- `AND H` (R414). -/
def exec_and_H (s : State) : Out := .next (aluOp .and (.opnd (.reg .h)) s)

/-- `AND L` (R414). -/
def exec_and_L (s : State) : Out := .next (aluOp .and (.opnd (.reg .l)) s)

/-- `AND (HL)` (R415). -/
def exec_and_mHL (s : State) : Out := .next (aluOp .and (.opnd .mHL) s)

/-- `AND A` (R414). -/
def exec_and_A (s : State) : Out := .next (aluOp .and (.opnd (.reg .a)) s)

/-- `XOR B` (R417). -/
def exec_xor_B (s : State) : Out := .next (aluOp .xor (.opnd (.reg .b)) s)

/-- `XOR C` (R417). -/
def exec_xor_C (s : State) : Out := .next (aluOp .xor (.opnd (.reg .c)) s)

/-- `XOR D` (R417). -/
def exec_xor_D (s : State) : Out := .next (aluOp .xor (.opnd (.reg .d)) s)

/-- `XOR E` (R417). -/
def exec_xor_E (s : State) : Out := .next (aluOp .xor (.opnd (.reg .e)) s)

/-- `XOR H` (R417). -/
def exec_xor_H (s : State) : Out := .next (aluOp .xor (.opnd (.reg .h)) s)

/-- `XOR L` (R417). -/
def exec_xor_L (s : State) : Out := .next (aluOp .xor (.opnd (.reg .l)) s)

/-- `XOR (HL)` (R418). -/
def exec_xor_mHL (s : State) : Out := .next (aluOp .xor (.opnd .mHL) s)

/-- `XOR A` (R417). -/
def exec_xor_A (s : State) : Out := .next (aluOp .xor (.opnd (.reg .a)) s)

/-- `OR B` (R420). -/
def exec_or_B (s : State) : Out := .next (aluOp .or (.opnd (.reg .b)) s)

/-- `OR C` (R420). -/
def exec_or_C (s : State) : Out := .next (aluOp .or (.opnd (.reg .c)) s)

/-- `OR D` (R420). -/
def exec_or_D (s : State) : Out := .next (aluOp .or (.opnd (.reg .d)) s)

/-- `OR E` (R420). -/
def exec_or_E (s : State) : Out := .next (aluOp .or (.opnd (.reg .e)) s)

/-- `OR H` (R420). -/
def exec_or_H (s : State) : Out := .next (aluOp .or (.opnd (.reg .h)) s)

/-- `OR L` (R420). -/
def exec_or_L (s : State) : Out := .next (aluOp .or (.opnd (.reg .l)) s)

/-- `OR (HL)` (R421). -/
def exec_or_mHL (s : State) : Out := .next (aluOp .or (.opnd .mHL) s)

/-- `OR A` (R420). -/
def exec_or_A (s : State) : Out := .next (aluOp .or (.opnd (.reg .a)) s)

/-- `CP B` (R423). -/
def exec_cp_B (s : State) : Out := .next (aluOp .cp (.opnd (.reg .b)) s)

/-- `CP C` (R423). -/
def exec_cp_C (s : State) : Out := .next (aluOp .cp (.opnd (.reg .c)) s)

/-- `CP D` (R423). -/
def exec_cp_D (s : State) : Out := .next (aluOp .cp (.opnd (.reg .d)) s)

/-- `CP E` (R423). -/
def exec_cp_E (s : State) : Out := .next (aluOp .cp (.opnd (.reg .e)) s)

/-- `CP H` (R423). -/
def exec_cp_H (s : State) : Out := .next (aluOp .cp (.opnd (.reg .h)) s)

/-- `CP L` (R423). -/
def exec_cp_L (s : State) : Out := .next (aluOp .cp (.opnd (.reg .l)) s)

/-- `CP (HL)` (R424). -/
def exec_cp_mHL (s : State) : Out := .next (aluOp .cp (.opnd .mHL) s)

/-- `CP A` (R423). -/
def exec_cp_A (s : State) : Out := .next (aluOp .cp (.opnd (.reg .a)) s)

/-- `ADD A,n8` (R404). -/
def exec_add_A_n8 (n : Byte) (s : State) : Out := .next (aluOp .add (.imm n) s)

/-- `ADC A,n8` (R407). -/
def exec_adc_A_n8 (n : Byte) (s : State) : Out := .next (aluOp .adc (.imm n) s)

/-- `SUB n8` (R410). -/
def exec_sub_n8 (n : Byte) (s : State) : Out := .next (aluOp .sub (.imm n) s)

/-- `SBC A,n8` (R413). -/
def exec_sbc_A_n8 (n : Byte) (s : State) : Out := .next (aluOp .sbc (.imm n) s)

/-- `AND n8` (R416). -/
def exec_and_n8 (n : Byte) (s : State) : Out := .next (aluOp .and (.imm n) s)

/-- `XOR n8` (R419). -/
def exec_xor_n8 (n : Byte) (s : State) : Out := .next (aluOp .xor (.imm n) s)

/-- `OR n8` (R422). -/
def exec_or_n8 (n : Byte) (s : State) : Out := .next (aluOp .or (.imm n) s)

/-- `CP n8` (R425). -/
def exec_cp_n8 (n : Byte) (s : State) : Out := .next (aluOp .cp (.imm n) s)

end Sys2Proof.Machine
end

