-- ==== Sys2Proof/Machine/Control.lean ====
section
/-! DEFINITION. Control transfer (spec/45_control_flow.md): JR, JP, CALL, RET, RETI, RST. The operand has been fetched
whatever the condition (R319), so PC is the address after the instruction. -/

namespace Sys2Proof.Machine

/-- JR e8 (R650). -/
def jrOp (e : Byte) (s : State) : State := (s.jumpRelative e).charge 12

/-- JR cc,e8: 12 taken, 8 not taken (R651). -/
def jrCcOp (cc : Cond) (e : Byte) (s : State) : State :=
  if s.cond cc then (s.jumpRelative e).charge 12 else s.charge 8

/-- JP a16 (R652). -/
def jpOp (a : Word) (s : State) : State := (s.setPc a).charge 16

/-- JP cc,a16: 16 taken, 12 not taken (R653). -/
def jpCcOp (cc : Cond) (a : Word) (s : State) : State :=
  if s.cond cc then (s.setPc a).charge 16 else s.charge 12

/-- JP HL: PC takes HL itself, not memory at HL (R654). -/
def jpHlOp (s : State) : State := (s.setPc s.hl).charge 4

/-- `push16(PC); PC <- a` (R655, R660). -/
def State.callTo (s : State) (a : Word) : State := (s.push16 s.pc).setPc a

/-- `PC <- pop16()` (R657). -/
def State.returnFrom (s : State) : State :=
  let (v, t) := s.pop16
  t.setPc v

/-- CALL a16 (R655). -/
def callOp (a : Word) (s : State) : State := (s.callTo a).charge 24

/-- CALL cc,a16: 24 taken, 12 not taken (R656). -/
def callCcOp (cc : Cond) (a : Word) (s : State) : State :=
  if s.cond cc then (s.callTo a).charge 24 else s.charge 12

/-- RET (R657). -/
def retOp (s : State) : State := s.returnFrom.charge 16

/-- RET cc: 20 taken, 8 not taken (R658). -/
def retCcOp (cc : Cond) (s : State) : State :=
  if s.cond cc then s.returnFrom.charge 20 else s.charge 8

/-- RETI: RET, and IME is set at once; `ei_pending` is not changed (R659, R810). -/
def retiOp (s : State) : State :=
  let t := s.returnFrom
  State.charge 16 { t with ime := true }

/-- RST: a call to `8 * y` (R317, R660). -/
def rstOp (y : Fin 8) (s : State) : State := (s.callTo (BitVec.ofNat 16 (8 * y.val))).charge 16

/-! ## One meaning per row -/

/-- `JR e8` (R650). -/
def exec_jr_e8 (e : Byte) (s : State) : Out := .next (jrOp e s)

/-- `JR NZ,e8` (R651). -/
def exec_jr_NZ_e8 (e : Byte) (s : State) : Out := .next (jrCcOp .nz e s)

/-- `JR Z,e8` (R651). -/
def exec_jr_Z_e8 (e : Byte) (s : State) : Out := .next (jrCcOp .z e s)

/-- `JR NC,e8` (R651). -/
def exec_jr_NC_e8 (e : Byte) (s : State) : Out := .next (jrCcOp .nc e s)

/-- `JR C,e8` (R651). -/
def exec_jr_C_e8 (e : Byte) (s : State) : Out := .next (jrCcOp .c e s)

/-- `RET NZ` (R658). -/
def exec_ret_NZ (s : State) : Out := .next (retCcOp .nz s)

/-- `JP NZ,a16` (R653). -/
def exec_jp_NZ_a16 (a : Word) (s : State) : Out := .next (jpCcOp .nz a s)

/-- `JP a16` (R652). -/
def exec_jp_a16 (a : Word) (s : State) : Out := .next (jpOp a s)

/-- `CALL NZ,a16` (R656). -/
def exec_call_NZ_a16 (a : Word) (s : State) : Out := .next (callCcOp .nz a s)

/-- `RST 0x00` (R660). -/
def exec_rst_00 (s : State) : Out := .next (rstOp 0 s)

/-- `RET Z` (R658). -/
def exec_ret_Z (s : State) : Out := .next (retCcOp .z s)

/-- `RET` (R657). -/
def exec_ret (s : State) : Out := .next (retOp s)

/-- `JP Z,a16` (R653). -/
def exec_jp_Z_a16 (a : Word) (s : State) : Out := .next (jpCcOp .z a s)

/-- `CALL Z,a16` (R656). -/
def exec_call_Z_a16 (a : Word) (s : State) : Out := .next (callCcOp .z a s)

/-- `CALL a16` (R655). -/
def exec_call_a16 (a : Word) (s : State) : Out := .next (callOp a s)

/-- `RST 0x08` (R660). -/
def exec_rst_08 (s : State) : Out := .next (rstOp 1 s)

/-- `RET NC` (R658). -/
def exec_ret_NC (s : State) : Out := .next (retCcOp .nc s)

/-- `JP NC,a16` (R653). -/
def exec_jp_NC_a16 (a : Word) (s : State) : Out := .next (jpCcOp .nc a s)

/-- `CALL NC,a16` (R656). -/
def exec_call_NC_a16 (a : Word) (s : State) : Out := .next (callCcOp .nc a s)

/-- `RST 0x10` (R660). -/
def exec_rst_10 (s : State) : Out := .next (rstOp 2 s)

/-- `RET C` (R658). -/
def exec_ret_C (s : State) : Out := .next (retCcOp .c s)

/-- `RETI` (R659). -/
def exec_reti (s : State) : Out := .next (retiOp s)

/-- `JP C,a16` (R653). -/
def exec_jp_C_a16 (a : Word) (s : State) : Out := .next (jpCcOp .c a s)

/-- `CALL C,a16` (R656). -/
def exec_call_C_a16 (a : Word) (s : State) : Out := .next (callCcOp .c a s)

/-- `RST 0x18` (R660). -/
def exec_rst_18 (s : State) : Out := .next (rstOp 3 s)

/-- `RST 0x20` (R660). -/
def exec_rst_20 (s : State) : Out := .next (rstOp 4 s)

/-- `JP HL` (R654). -/
def exec_jp_HL (s : State) : Out := .next (jpHlOp s)

/-- `RST 0x28` (R660). -/
def exec_rst_28 (s : State) : Out := .next (rstOp 5 s)

/-- `RST 0x30` (R660). -/
def exec_rst_30 (s : State) : Out := .next (rstOp 6 s)

/-- `RST 0x38` (R660). -/
def exec_rst_38 (s : State) : Out := .next (rstOp 7 s)

end Sys2Proof.Machine
end

