-- ==== Sys2Proof/Machine/Loads.lean ====
section
/-! DEFINITION. Loads and stores (spec/44_loads.md): every LD and LDH form. No load or store writes F (R613). -/

namespace Sys2Proof.Machine

/-- The cost of an 8-bit load between `R8` operands: 4, or 8 where one is (HL) (R600, R602, R603). -/
def ldCost : Opnd8 → Opnd8 → Nat
  | .reg _, .reg _ => 4
  | _, _ => 8

/-- `R8[y] <- R8[z]` (R600, R602, R603). -/
def ldOp (y z : Opnd8) (s : State) : State := (s.putOpnd y (s.getOpnd z)).charge (ldCost y z)

/-- The cost of loading an immediate byte: 8, or 12 into (HL) (R601, R604). -/
def ldN8Cost : Opnd8 → Nat
  | .reg _ => 8
  | .mHL => 12

/-- `R8[y] <- n8` (R601, R604). -/
def ldN8Op (y : Opnd8) (n : Byte) (s : State) : State := (s.putOpnd y n).charge (ldN8Cost y)

/-- `A <- MemRead(R16MEM[p], 1)`, then HL moves where the operand says so (R605, R606, R609, R610). -/
def ldAMemOp (m : R16Mem) (s : State) : State :=
  ((s.setR8 .a (s.memRead (s.memAddr m))).memAddrAfter m).charge 8

/-- `MemWrite(R16MEM[p], 1, A)`, then HL moves where the operand says so (R607, R608, R611, R612). -/
def ldMemAOp (m : R16Mem) (s : State) : State :=
  ((s.memWrite (s.memAddr m) s.a).memAddrAfter m).charge 8

/-- `A <- MemRead(addr, 1)` at the given cost (R615, R617, R618). -/
def ldAFromOp (addr : Word) (cost : Nat) (s : State) : State := (s.setR8 .a (s.memRead addr)).charge cost

/-- `MemWrite(addr, 1, A)` at the given cost (R614, R616, R619). -/
def ldAToOp (addr : Word) (cost : Nat) (s : State) : State := (s.memWrite addr s.a).charge cost

/-- `rr <- n16` (R620). -/
def ldN16Op (r : R16) (n : Word) (s : State) : State := (s.setR16 r n).charge 12

/-- `MemWrite(a, 2, SP)`, low byte first (R621). -/
def ldMemSpOp (a : Word) (s : State) : State := (s.memWrite16 a s.sp).charge 20

/-- `SP <- HL` (R622). -/
def ldSpHlOp (s : State) : State := (s.setSp s.hl).charge 8

/-! ## One meaning per row -/

/-- `LD BC,n16` (R620). -/
def exec_ld_BC_n16 (n : Word) (s : State) : Out := .next (ldN16Op .bc n s)

/-- `LD (BC),A` (R607). -/
def exec_ld_mBC_A (s : State) : Out := .next (ldMemAOp .bc s)

/-- `LD B,n8` (R601). -/
def exec_ld_B_n8 (n : Byte) (s : State) : Out := .next (ldN8Op (.reg .b) n s)

/-- `LD (a16),SP` (R621). -/
def exec_ld_ma16_SP (a : Word) (s : State) : Out := .next (ldMemSpOp a s)

/-- `LD A,(BC)` (R605). -/
def exec_ld_A_mBC (s : State) : Out := .next (ldAMemOp .bc s)

/-- `LD C,n8` (R601). -/
def exec_ld_C_n8 (n : Byte) (s : State) : Out := .next (ldN8Op (.reg .c) n s)

/-- `LD DE,n16` (R620). -/
def exec_ld_DE_n16 (n : Word) (s : State) : Out := .next (ldN16Op .de n s)

/-- `LD (DE),A` (R608). -/
def exec_ld_mDE_A (s : State) : Out := .next (ldMemAOp .de s)

/-- `LD D,n8` (R601). -/
def exec_ld_D_n8 (n : Byte) (s : State) : Out := .next (ldN8Op (.reg .d) n s)

/-- `LD A,(DE)` (R606). -/
def exec_ld_A_mDE (s : State) : Out := .next (ldAMemOp .de s)

/-- `LD E,n8` (R601). -/
def exec_ld_E_n8 (n : Byte) (s : State) : Out := .next (ldN8Op (.reg .e) n s)

/-- `LD HL,n16` (R620). -/
def exec_ld_HL_n16 (n : Word) (s : State) : Out := .next (ldN16Op .hl n s)

/-- `LD (HL+),A` (R611). -/
def exec_ld_mHLi_A (s : State) : Out := .next (ldMemAOp .hlInc s)

/-- `LD H,n8` (R601). -/
def exec_ld_H_n8 (n : Byte) (s : State) : Out := .next (ldN8Op (.reg .h) n s)

/-- `LD A,(HL+)` (R609). -/
def exec_ld_A_mHLi (s : State) : Out := .next (ldAMemOp .hlInc s)

/-- `LD L,n8` (R601). -/
def exec_ld_L_n8 (n : Byte) (s : State) : Out := .next (ldN8Op (.reg .l) n s)

/-- `LD SP,n16` (R620). -/
def exec_ld_SP_n16 (n : Word) (s : State) : Out := .next (ldN16Op .sp n s)

/-- `LD (HL-),A` (R612). -/
def exec_ld_mHLd_A (s : State) : Out := .next (ldMemAOp .hlDec s)

/-- `LD (HL),n8` (R604). -/
def exec_ld_mHL_n8 (n : Byte) (s : State) : Out := .next (ldN8Op .mHL n s)

/-- `LD A,(HL-)` (R610). -/
def exec_ld_A_mHLd (s : State) : Out := .next (ldAMemOp .hlDec s)

/-- `LD A,n8` (R601). -/
def exec_ld_A_n8 (n : Byte) (s : State) : Out := .next (ldN8Op (.reg .a) n s)

/-- `LD B,B` (R600). -/
def exec_ld_B_B (s : State) : Out := .next (ldOp (.reg .b) (.reg .b) s)

/-- `LD B,C` (R600). -/
def exec_ld_B_C (s : State) : Out := .next (ldOp (.reg .b) (.reg .c) s)

/-- `LD B,D` (R600). -/
def exec_ld_B_D (s : State) : Out := .next (ldOp (.reg .b) (.reg .d) s)

/-- `LD B,E` (R600). -/
def exec_ld_B_E (s : State) : Out := .next (ldOp (.reg .b) (.reg .e) s)

/-- `LD B,H` (R600). -/
def exec_ld_B_H (s : State) : Out := .next (ldOp (.reg .b) (.reg .h) s)

/-- `LD B,L` (R600). -/
def exec_ld_B_L (s : State) : Out := .next (ldOp (.reg .b) (.reg .l) s)

/-- `LD B,(HL)` (R602). -/
def exec_ld_B_mHL (s : State) : Out := .next (ldOp (.reg .b) .mHL s)

/-- `LD B,A` (R600). -/
def exec_ld_B_A (s : State) : Out := .next (ldOp (.reg .b) (.reg .a) s)

/-- `LD C,B` (R600). -/
def exec_ld_C_B (s : State) : Out := .next (ldOp (.reg .c) (.reg .b) s)

/-- `LD C,C` (R600). -/
def exec_ld_C_C (s : State) : Out := .next (ldOp (.reg .c) (.reg .c) s)

/-- `LD C,D` (R600). -/
def exec_ld_C_D (s : State) : Out := .next (ldOp (.reg .c) (.reg .d) s)

/-- `LD C,E` (R600). -/
def exec_ld_C_E (s : State) : Out := .next (ldOp (.reg .c) (.reg .e) s)

/-- `LD C,H` (R600). -/
def exec_ld_C_H (s : State) : Out := .next (ldOp (.reg .c) (.reg .h) s)

/-- `LD C,L` (R600). -/
def exec_ld_C_L (s : State) : Out := .next (ldOp (.reg .c) (.reg .l) s)

/-- `LD C,(HL)` (R602). -/
def exec_ld_C_mHL (s : State) : Out := .next (ldOp (.reg .c) .mHL s)

/-- `LD C,A` (R600). -/
def exec_ld_C_A (s : State) : Out := .next (ldOp (.reg .c) (.reg .a) s)

/-- `LD D,B` (R600). -/
def exec_ld_D_B (s : State) : Out := .next (ldOp (.reg .d) (.reg .b) s)

/-- `LD D,C` (R600). -/
def exec_ld_D_C (s : State) : Out := .next (ldOp (.reg .d) (.reg .c) s)

/-- `LD D,D` (R600). -/
def exec_ld_D_D (s : State) : Out := .next (ldOp (.reg .d) (.reg .d) s)

/-- `LD D,E` (R600). -/
def exec_ld_D_E (s : State) : Out := .next (ldOp (.reg .d) (.reg .e) s)

/-- `LD D,H` (R600). -/
def exec_ld_D_H (s : State) : Out := .next (ldOp (.reg .d) (.reg .h) s)

/-- `LD D,L` (R600). -/
def exec_ld_D_L (s : State) : Out := .next (ldOp (.reg .d) (.reg .l) s)

/-- `LD D,(HL)` (R602). -/
def exec_ld_D_mHL (s : State) : Out := .next (ldOp (.reg .d) .mHL s)

/-- `LD D,A` (R600). -/
def exec_ld_D_A (s : State) : Out := .next (ldOp (.reg .d) (.reg .a) s)

/-- `LD E,B` (R600). -/
def exec_ld_E_B (s : State) : Out := .next (ldOp (.reg .e) (.reg .b) s)

/-- `LD E,C` (R600). -/
def exec_ld_E_C (s : State) : Out := .next (ldOp (.reg .e) (.reg .c) s)

/-- `LD E,D` (R600). -/
def exec_ld_E_D (s : State) : Out := .next (ldOp (.reg .e) (.reg .d) s)

/-- `LD E,E` (R600). -/
def exec_ld_E_E (s : State) : Out := .next (ldOp (.reg .e) (.reg .e) s)

/-- `LD E,H` (R600). -/
def exec_ld_E_H (s : State) : Out := .next (ldOp (.reg .e) (.reg .h) s)

/-- `LD E,L` (R600). -/
def exec_ld_E_L (s : State) : Out := .next (ldOp (.reg .e) (.reg .l) s)

/-- `LD E,(HL)` (R602). -/
def exec_ld_E_mHL (s : State) : Out := .next (ldOp (.reg .e) .mHL s)

/-- `LD E,A` (R600). -/
def exec_ld_E_A (s : State) : Out := .next (ldOp (.reg .e) (.reg .a) s)

/-- `LD H,B` (R600). -/
def exec_ld_H_B (s : State) : Out := .next (ldOp (.reg .h) (.reg .b) s)

/-- `LD H,C` (R600). -/
def exec_ld_H_C (s : State) : Out := .next (ldOp (.reg .h) (.reg .c) s)

/-- `LD H,D` (R600). -/
def exec_ld_H_D (s : State) : Out := .next (ldOp (.reg .h) (.reg .d) s)

/-- `LD H,E` (R600). -/
def exec_ld_H_E (s : State) : Out := .next (ldOp (.reg .h) (.reg .e) s)

/-- `LD H,H` (R600). -/
def exec_ld_H_H (s : State) : Out := .next (ldOp (.reg .h) (.reg .h) s)

/-- `LD H,L` (R600). -/
def exec_ld_H_L (s : State) : Out := .next (ldOp (.reg .h) (.reg .l) s)

/-- `LD H,(HL)` (R602). -/
def exec_ld_H_mHL (s : State) : Out := .next (ldOp (.reg .h) .mHL s)

/-- `LD H,A` (R600). -/
def exec_ld_H_A (s : State) : Out := .next (ldOp (.reg .h) (.reg .a) s)

/-- `LD L,B` (R600). -/
def exec_ld_L_B (s : State) : Out := .next (ldOp (.reg .l) (.reg .b) s)

/-- `LD L,C` (R600). -/
def exec_ld_L_C (s : State) : Out := .next (ldOp (.reg .l) (.reg .c) s)

/-- `LD L,D` (R600). -/
def exec_ld_L_D (s : State) : Out := .next (ldOp (.reg .l) (.reg .d) s)

/-- `LD L,E` (R600). -/
def exec_ld_L_E (s : State) : Out := .next (ldOp (.reg .l) (.reg .e) s)

/-- `LD L,H` (R600). -/
def exec_ld_L_H (s : State) : Out := .next (ldOp (.reg .l) (.reg .h) s)

/-- `LD L,L` (R600). -/
def exec_ld_L_L (s : State) : Out := .next (ldOp (.reg .l) (.reg .l) s)

/-- `LD L,(HL)` (R602). -/
def exec_ld_L_mHL (s : State) : Out := .next (ldOp (.reg .l) .mHL s)

/-- `LD L,A` (R600). -/
def exec_ld_L_A (s : State) : Out := .next (ldOp (.reg .l) (.reg .a) s)

/-- `LD (HL),B` (R603). -/
def exec_ld_mHL_B (s : State) : Out := .next (ldOp .mHL (.reg .b) s)

/-- `LD (HL),C` (R603). -/
def exec_ld_mHL_C (s : State) : Out := .next (ldOp .mHL (.reg .c) s)

/-- `LD (HL),D` (R603). -/
def exec_ld_mHL_D (s : State) : Out := .next (ldOp .mHL (.reg .d) s)

/-- `LD (HL),E` (R603). -/
def exec_ld_mHL_E (s : State) : Out := .next (ldOp .mHL (.reg .e) s)

/-- `LD (HL),H` (R603). -/
def exec_ld_mHL_H (s : State) : Out := .next (ldOp .mHL (.reg .h) s)

/-- `LD (HL),L` (R603). -/
def exec_ld_mHL_L (s : State) : Out := .next (ldOp .mHL (.reg .l) s)

/-- `LD (HL),A` (R603). -/
def exec_ld_mHL_A (s : State) : Out := .next (ldOp .mHL (.reg .a) s)

/-- `LD A,B` (R600). -/
def exec_ld_A_B (s : State) : Out := .next (ldOp (.reg .a) (.reg .b) s)

/-- `LD A,C` (R600). -/
def exec_ld_A_C (s : State) : Out := .next (ldOp (.reg .a) (.reg .c) s)

/-- `LD A,D` (R600). -/
def exec_ld_A_D (s : State) : Out := .next (ldOp (.reg .a) (.reg .d) s)

/-- `LD A,E` (R600). -/
def exec_ld_A_E (s : State) : Out := .next (ldOp (.reg .a) (.reg .e) s)

/-- `LD A,H` (R600). -/
def exec_ld_A_H (s : State) : Out := .next (ldOp (.reg .a) (.reg .h) s)

/-- `LD A,L` (R600). -/
def exec_ld_A_L (s : State) : Out := .next (ldOp (.reg .a) (.reg .l) s)

/-- `LD A,(HL)` (R602). -/
def exec_ld_A_mHL (s : State) : Out := .next (ldOp (.reg .a) .mHL s)

/-- `LD A,A` (R600). -/
def exec_ld_A_A (s : State) : Out := .next (ldOp (.reg .a) (.reg .a) s)

/-- `LDH (a8),A` (R614). -/
def exec_ldh_ma8_A (a : Byte) (s : State) : Out := .next (ldAToOp (highPage a) 12 s)

/-- `LD (C),A` (R616). -/
def exec_ld_mC_A (s : State) : Out := .next (ldAToOp (highPage s.c) 8 s)

/-- `LD (a16),A` (R619). -/
def exec_ld_ma16_A (a : Word) (s : State) : Out := .next (ldAToOp a 16 s)

/-- `LDH A,(a8)` (R615). -/
def exec_ldh_A_ma8 (a : Byte) (s : State) : Out := .next (ldAFromOp (highPage a) 12 s)

/-- `LD A,(C)` (R617). -/
def exec_ld_A_mC (s : State) : Out := .next (ldAFromOp (highPage s.c) 8 s)

/-- `LD SP,HL` (R622). -/
def exec_ld_SP_HL (s : State) : Out := .next (ldSpHlOp s)

/-- `LD A,(a16)` (R618). -/
def exec_ld_A_ma16 (a : Word) (s : State) : Out := .next (ldAFromOp a 16 s)

end Sys2Proof.Machine
end

