-- ==== Sys2Proof/Machine/MiscAlu.lean ====
section
/-! DEFINITION. Decimal adjust and flag operations (spec/43_misc_alu.md): DAA, CPL, SCF, CCF. -/

namespace Sys2Proof.Machine

/-- DAA: N unchanged, H cleared (R550). -/
def daaOp (s : State) : State :=
  let (res, c) := daa s.a s.nf s.hf s.cf
  ((s.setR8 .a res).flags (some (decide (res = 0))) none (some false) (some c)).charge 4

/-- CPL: N and H set, Z and C unchanged (R551). -/
def cplOp (s : State) : State := ((s.setR8 .a (~~~s.a)).flags none (some true) (some true) none).charge 4

/-- SCF: C set, N and H cleared, Z unchanged (R552). -/
def scfOp (s : State) : State := (s.flags none (some false) (some false) (some true)).charge 4

/-- CCF: C inverted, N and H cleared, Z unchanged (R553). -/
def ccfOp (s : State) : State := (s.flags none (some false) (some false) (some !s.cf)).charge 4

/-! ## One meaning per row -/

/-- `DAA` (R550). -/
def exec_daa (s : State) : Out := .next (daaOp s)

/-- `CPL` (R551). -/
def exec_cpl (s : State) : Out := .next (cplOp s)

/-- `SCF` (R552). -/
def exec_scf (s : State) : Out := .next (scfOp s)

/-- `CCF` (R553). -/
def exec_ccf (s : State) : Out := .next (ccfOp s)

end Sys2Proof.Machine
end

