-- ==== Sys2Proof/Machine/RotateShift.lean ====
section
/-! DEFINITION. Rotates, shifts and bit operations (spec/42_rotate_shift_bit.md): RLCA, RRCA, RLA, RRA, and the extended
table: RLC, RRC, RL, RR, SLA, SRA, SWAP, SRL, BIT, RES, SET. -/

namespace Sys2Proof.Machine

/-- A rotate of A by its one-byte opcode: Z is cleared whatever the result (R500 to R503). -/
def rotAOp (op : RotOp) (s : State) : State :=
  let (res, c) := rotate op s.a s.cf
  ((s.setR8 .a res).flags (some false) (some false) (some false) (some c)).charge 4

/-- Charge an extended instruction: the prefix cost 4 plus the entry cost, or the entry cost alone (R322). -/
def State.chargeExtended (entry : Nat) (s : State) : State :=
  match s.params.cbTiming with
  | .document => s.charge (4 + entry)
  | .hardware => s.charge entry

/-- The entry cost of an extended instruction that writes its operand (R322). -/
def rmwCost : Opnd8 → Nat
  | .reg _ => 8
  | .mHL => 16

/-- The entry cost of BIT, which only reads its operand (R322, R522). -/
def bitCost : Opnd8 → Nat
  | .reg _ => 8
  | .mHL => 12

/-- `ROT[y]` on `R8[z]` (R505 to R520). -/
def rotOp (op : RotOp) (o : Opnd8) (s : State) : State :=
  let (res, c) := rotate op (s.getOpnd o) s.cf
  ((s.putOpnd o res).flags (some (decide (res = 0))) (some false) (some false) (some c)).chargeExtended (rmwCost o)

/-- BIT b: Z is the inverse of the bit, C unchanged, the operand not written (R521, R522). -/
def bitOp (b : Fin 8) (o : Opnd8) (s : State) : State :=
  (s.flags (some (!(s.getOpnd o).getLsbD b.val)) (some false) (some true) none).chargeExtended (bitCost o)

/-- RES b: no flags (R523, R524). -/
def resOp (b : Fin 8) (o : Opnd8) (s : State) : State :=
  (s.putOpnd o (s.getOpnd o &&& ~~~(bitMask b))).chargeExtended (rmwCost o)

/-- SET b: no flags (R525, R526). -/
def setOp (b : Fin 8) (o : Opnd8) (s : State) : State :=
  (s.putOpnd o (s.getOpnd o ||| bitMask b)).chargeExtended (rmwCost o)

/-! ## One meaning per row -/

/-- `RLCA` (R500). -/
def exec_rlca (s : State) : Out := .next (rotAOp .rlc s)

/-- `RRCA` (R501). -/
def exec_rrca (s : State) : Out := .next (rotAOp .rrc s)

/-- `RLA` (R502). -/
def exec_rla (s : State) : Out := .next (rotAOp .rl s)

/-- `RRA` (R503). -/
def exec_rra (s : State) : Out := .next (rotAOp .rr s)

/-- `RLC B` (R505). -/
def exec_rlc_B (s : State) : Out := .next (rotOp .rlc (.reg .b) s)

/-- `RLC C` (R505). -/
def exec_rlc_C (s : State) : Out := .next (rotOp .rlc (.reg .c) s)

/-- `RLC D` (R505). -/
def exec_rlc_D (s : State) : Out := .next (rotOp .rlc (.reg .d) s)

/-- `RLC E` (R505). -/
def exec_rlc_E (s : State) : Out := .next (rotOp .rlc (.reg .e) s)

/-- `RLC H` (R505). -/
def exec_rlc_H (s : State) : Out := .next (rotOp .rlc (.reg .h) s)

/-- `RLC L` (R505). -/
def exec_rlc_L (s : State) : Out := .next (rotOp .rlc (.reg .l) s)

/-- `RLC (HL)` (R506). -/
def exec_rlc_mHL (s : State) : Out := .next (rotOp .rlc .mHL s)

/-- `RLC A` (R505). -/
def exec_rlc_A (s : State) : Out := .next (rotOp .rlc (.reg .a) s)

/-- `RRC B` (R507). -/
def exec_rrc_B (s : State) : Out := .next (rotOp .rrc (.reg .b) s)

/-- `RRC C` (R507). -/
def exec_rrc_C (s : State) : Out := .next (rotOp .rrc (.reg .c) s)

/-- `RRC D` (R507). -/
def exec_rrc_D (s : State) : Out := .next (rotOp .rrc (.reg .d) s)

/-- `RRC E` (R507). -/
def exec_rrc_E (s : State) : Out := .next (rotOp .rrc (.reg .e) s)

/-- `RRC H` (R507). -/
def exec_rrc_H (s : State) : Out := .next (rotOp .rrc (.reg .h) s)

/-- `RRC L` (R507). -/
def exec_rrc_L (s : State) : Out := .next (rotOp .rrc (.reg .l) s)

/-- `RRC (HL)` (R508). -/
def exec_rrc_mHL (s : State) : Out := .next (rotOp .rrc .mHL s)

/-- `RRC A` (R507). -/
def exec_rrc_A (s : State) : Out := .next (rotOp .rrc (.reg .a) s)

/-- `RL B` (R509). -/
def exec_rl_B (s : State) : Out := .next (rotOp .rl (.reg .b) s)

/-- `RL C` (R509). -/
def exec_rl_C (s : State) : Out := .next (rotOp .rl (.reg .c) s)

/-- `RL D` (R509). -/
def exec_rl_D (s : State) : Out := .next (rotOp .rl (.reg .d) s)

/-- `RL E` (R509). -/
def exec_rl_E (s : State) : Out := .next (rotOp .rl (.reg .e) s)

/-- `RL H` (R509). -/
def exec_rl_H (s : State) : Out := .next (rotOp .rl (.reg .h) s)

/-- `RL L` (R509). -/
def exec_rl_L (s : State) : Out := .next (rotOp .rl (.reg .l) s)

/-- `RL (HL)` (R510). -/
def exec_rl_mHL (s : State) : Out := .next (rotOp .rl .mHL s)

/-- `RL A` (R509). -/
def exec_rl_A (s : State) : Out := .next (rotOp .rl (.reg .a) s)

/-- `RR B` (R511). -/
def exec_rr_B (s : State) : Out := .next (rotOp .rr (.reg .b) s)

/-- `RR C` (R511). -/
def exec_rr_C (s : State) : Out := .next (rotOp .rr (.reg .c) s)

/-- `RR D` (R511). -/
def exec_rr_D (s : State) : Out := .next (rotOp .rr (.reg .d) s)

/-- `RR E` (R511). -/
def exec_rr_E (s : State) : Out := .next (rotOp .rr (.reg .e) s)

/-- `RR H` (R511). -/
def exec_rr_H (s : State) : Out := .next (rotOp .rr (.reg .h) s)

/-- `RR L` (R511). -/
def exec_rr_L (s : State) : Out := .next (rotOp .rr (.reg .l) s)

/-- `RR (HL)` (R512). -/
def exec_rr_mHL (s : State) : Out := .next (rotOp .rr .mHL s)

/-- `RR A` (R511). -/
def exec_rr_A (s : State) : Out := .next (rotOp .rr (.reg .a) s)

/-- `SLA B` (R513). -/
def exec_sla_B (s : State) : Out := .next (rotOp .sla (.reg .b) s)

/-- `SLA C` (R513). -/
def exec_sla_C (s : State) : Out := .next (rotOp .sla (.reg .c) s)

/-- `SLA D` (R513). -/
def exec_sla_D (s : State) : Out := .next (rotOp .sla (.reg .d) s)

/-- `SLA E` (R513). -/
def exec_sla_E (s : State) : Out := .next (rotOp .sla (.reg .e) s)

/-- `SLA H` (R513). -/
def exec_sla_H (s : State) : Out := .next (rotOp .sla (.reg .h) s)

/-- `SLA L` (R513). -/
def exec_sla_L (s : State) : Out := .next (rotOp .sla (.reg .l) s)

/-- `SLA (HL)` (R514). -/
def exec_sla_mHL (s : State) : Out := .next (rotOp .sla .mHL s)

/-- `SLA A` (R513). -/
def exec_sla_A (s : State) : Out := .next (rotOp .sla (.reg .a) s)

/-- `SRA B` (R515). -/
def exec_sra_B (s : State) : Out := .next (rotOp .sra (.reg .b) s)

/-- `SRA C` (R515). -/
def exec_sra_C (s : State) : Out := .next (rotOp .sra (.reg .c) s)

/-- `SRA D` (R515). -/
def exec_sra_D (s : State) : Out := .next (rotOp .sra (.reg .d) s)

/-- `SRA E` (R515). -/
def exec_sra_E (s : State) : Out := .next (rotOp .sra (.reg .e) s)

/-- `SRA H` (R515). -/
def exec_sra_H (s : State) : Out := .next (rotOp .sra (.reg .h) s)

/-- `SRA L` (R515). -/
def exec_sra_L (s : State) : Out := .next (rotOp .sra (.reg .l) s)

/-- `SRA (HL)` (R516). -/
def exec_sra_mHL (s : State) : Out := .next (rotOp .sra .mHL s)

/-- `SRA A` (R515). -/
def exec_sra_A (s : State) : Out := .next (rotOp .sra (.reg .a) s)

/-- `SWAP B` (R517). -/
def exec_swap_B (s : State) : Out := .next (rotOp .swap (.reg .b) s)

/-- `SWAP C` (R517). -/
def exec_swap_C (s : State) : Out := .next (rotOp .swap (.reg .c) s)

/-- `SWAP D` (R517). -/
def exec_swap_D (s : State) : Out := .next (rotOp .swap (.reg .d) s)

/-- `SWAP E` (R517). -/
def exec_swap_E (s : State) : Out := .next (rotOp .swap (.reg .e) s)

/-- `SWAP H` (R517). -/
def exec_swap_H (s : State) : Out := .next (rotOp .swap (.reg .h) s)

/-- `SWAP L` (R517). -/
def exec_swap_L (s : State) : Out := .next (rotOp .swap (.reg .l) s)

/-- `SWAP (HL)` (R518). -/
def exec_swap_mHL (s : State) : Out := .next (rotOp .swap .mHL s)

/-- `SWAP A` (R517). -/
def exec_swap_A (s : State) : Out := .next (rotOp .swap (.reg .a) s)

/-- `SRL B` (R519). -/
def exec_srl_B (s : State) : Out := .next (rotOp .srl (.reg .b) s)

/-- `SRL C` (R519). -/
def exec_srl_C (s : State) : Out := .next (rotOp .srl (.reg .c) s)

/-- `SRL D` (R519). -/
def exec_srl_D (s : State) : Out := .next (rotOp .srl (.reg .d) s)

/-- `SRL E` (R519). -/
def exec_srl_E (s : State) : Out := .next (rotOp .srl (.reg .e) s)

/-- `SRL H` (R519). -/
def exec_srl_H (s : State) : Out := .next (rotOp .srl (.reg .h) s)

/-- `SRL L` (R519). -/
def exec_srl_L (s : State) : Out := .next (rotOp .srl (.reg .l) s)

/-- `SRL (HL)` (R520). -/
def exec_srl_mHL (s : State) : Out := .next (rotOp .srl .mHL s)

/-- `SRL A` (R519). -/
def exec_srl_A (s : State) : Out := .next (rotOp .srl (.reg .a) s)

/-- `BIT 0,B` (R521). -/
def exec_bit_0_B (s : State) : Out := .next (bitOp 0 (.reg .b) s)

/-- `BIT 0,C` (R521). -/
def exec_bit_0_C (s : State) : Out := .next (bitOp 0 (.reg .c) s)

/-- `BIT 0,D` (R521). -/
def exec_bit_0_D (s : State) : Out := .next (bitOp 0 (.reg .d) s)

/-- `BIT 0,E` (R521). -/
def exec_bit_0_E (s : State) : Out := .next (bitOp 0 (.reg .e) s)

/-- `BIT 0,H` (R521). -/
def exec_bit_0_H (s : State) : Out := .next (bitOp 0 (.reg .h) s)

/-- `BIT 0,L` (R521). -/
def exec_bit_0_L (s : State) : Out := .next (bitOp 0 (.reg .l) s)

/-- `BIT 0,(HL)` (R522). -/
def exec_bit_0_mHL (s : State) : Out := .next (bitOp 0 .mHL s)

/-- `BIT 0,A` (R521). -/
def exec_bit_0_A (s : State) : Out := .next (bitOp 0 (.reg .a) s)

/-- `BIT 1,B` (R521). -/
def exec_bit_1_B (s : State) : Out := .next (bitOp 1 (.reg .b) s)

/-- `BIT 1,C` (R521). -/
def exec_bit_1_C (s : State) : Out := .next (bitOp 1 (.reg .c) s)

/-- `BIT 1,D` (R521). -/
def exec_bit_1_D (s : State) : Out := .next (bitOp 1 (.reg .d) s)

/-- `BIT 1,E` (R521). -/
def exec_bit_1_E (s : State) : Out := .next (bitOp 1 (.reg .e) s)

/-- `BIT 1,H` (R521). -/
def exec_bit_1_H (s : State) : Out := .next (bitOp 1 (.reg .h) s)

/-- `BIT 1,L` (R521). -/
def exec_bit_1_L (s : State) : Out := .next (bitOp 1 (.reg .l) s)

/-- `BIT 1,(HL)` (R522). -/
def exec_bit_1_mHL (s : State) : Out := .next (bitOp 1 .mHL s)

/-- `BIT 1,A` (R521). -/
def exec_bit_1_A (s : State) : Out := .next (bitOp 1 (.reg .a) s)

/-- `BIT 2,B` (R521). -/
def exec_bit_2_B (s : State) : Out := .next (bitOp 2 (.reg .b) s)

/-- `BIT 2,C` (R521). -/
def exec_bit_2_C (s : State) : Out := .next (bitOp 2 (.reg .c) s)

/-- `BIT 2,D` (R521). -/
def exec_bit_2_D (s : State) : Out := .next (bitOp 2 (.reg .d) s)

/-- `BIT 2,E` (R521). -/
def exec_bit_2_E (s : State) : Out := .next (bitOp 2 (.reg .e) s)

/-- `BIT 2,H` (R521). -/
def exec_bit_2_H (s : State) : Out := .next (bitOp 2 (.reg .h) s)

/-- `BIT 2,L` (R521). -/
def exec_bit_2_L (s : State) : Out := .next (bitOp 2 (.reg .l) s)

/-- `BIT 2,(HL)` (R522). -/
def exec_bit_2_mHL (s : State) : Out := .next (bitOp 2 .mHL s)

/-- `BIT 2,A` (R521). -/
def exec_bit_2_A (s : State) : Out := .next (bitOp 2 (.reg .a) s)

/-- `BIT 3,B` (R521). -/
def exec_bit_3_B (s : State) : Out := .next (bitOp 3 (.reg .b) s)

/-- `BIT 3,C` (R521). -/
def exec_bit_3_C (s : State) : Out := .next (bitOp 3 (.reg .c) s)

/-- `BIT 3,D` (R521). -/
def exec_bit_3_D (s : State) : Out := .next (bitOp 3 (.reg .d) s)

/-- `BIT 3,E` (R521). -/
def exec_bit_3_E (s : State) : Out := .next (bitOp 3 (.reg .e) s)

/-- `BIT 3,H` (R521). -/
def exec_bit_3_H (s : State) : Out := .next (bitOp 3 (.reg .h) s)

/-- `BIT 3,L` (R521). -/
def exec_bit_3_L (s : State) : Out := .next (bitOp 3 (.reg .l) s)

/-- `BIT 3,(HL)` (R522). -/
def exec_bit_3_mHL (s : State) : Out := .next (bitOp 3 .mHL s)

/-- `BIT 3,A` (R521). -/
def exec_bit_3_A (s : State) : Out := .next (bitOp 3 (.reg .a) s)

/-- `BIT 4,B` (R521). -/
def exec_bit_4_B (s : State) : Out := .next (bitOp 4 (.reg .b) s)

/-- `BIT 4,C` (R521). -/
def exec_bit_4_C (s : State) : Out := .next (bitOp 4 (.reg .c) s)

/-- `BIT 4,D` (R521). -/
def exec_bit_4_D (s : State) : Out := .next (bitOp 4 (.reg .d) s)

/-- `BIT 4,E` (R521). -/
def exec_bit_4_E (s : State) : Out := .next (bitOp 4 (.reg .e) s)

/-- `BIT 4,H` (R521). -/
def exec_bit_4_H (s : State) : Out := .next (bitOp 4 (.reg .h) s)

/-- `BIT 4,L` (R521). -/
def exec_bit_4_L (s : State) : Out := .next (bitOp 4 (.reg .l) s)

/-- `BIT 4,(HL)` (R522). -/
def exec_bit_4_mHL (s : State) : Out := .next (bitOp 4 .mHL s)

/-- `BIT 4,A` (R521). -/
def exec_bit_4_A (s : State) : Out := .next (bitOp 4 (.reg .a) s)

/-- `BIT 5,B` (R521). -/
def exec_bit_5_B (s : State) : Out := .next (bitOp 5 (.reg .b) s)

/-- `BIT 5,C` (R521). -/
def exec_bit_5_C (s : State) : Out := .next (bitOp 5 (.reg .c) s)

/-- `BIT 5,D` (R521). -/
def exec_bit_5_D (s : State) : Out := .next (bitOp 5 (.reg .d) s)

/-- `BIT 5,E` (R521). -/
def exec_bit_5_E (s : State) : Out := .next (bitOp 5 (.reg .e) s)

/-- `BIT 5,H` (R521). -/
def exec_bit_5_H (s : State) : Out := .next (bitOp 5 (.reg .h) s)

/-- `BIT 5,L` (R521). -/
def exec_bit_5_L (s : State) : Out := .next (bitOp 5 (.reg .l) s)

/-- `BIT 5,(HL)` (R522). -/
def exec_bit_5_mHL (s : State) : Out := .next (bitOp 5 .mHL s)

/-- `BIT 5,A` (R521). -/
def exec_bit_5_A (s : State) : Out := .next (bitOp 5 (.reg .a) s)

/-- `BIT 6,B` (R521). -/
def exec_bit_6_B (s : State) : Out := .next (bitOp 6 (.reg .b) s)

/-- `BIT 6,C` (R521). -/
def exec_bit_6_C (s : State) : Out := .next (bitOp 6 (.reg .c) s)

/-- `BIT 6,D` (R521). -/
def exec_bit_6_D (s : State) : Out := .next (bitOp 6 (.reg .d) s)

/-- `BIT 6,E` (R521). -/
def exec_bit_6_E (s : State) : Out := .next (bitOp 6 (.reg .e) s)

/-- `BIT 6,H` (R521). -/
def exec_bit_6_H (s : State) : Out := .next (bitOp 6 (.reg .h) s)

/-- `BIT 6,L` (R521). -/
def exec_bit_6_L (s : State) : Out := .next (bitOp 6 (.reg .l) s)

/-- `BIT 6,(HL)` (R522). -/
def exec_bit_6_mHL (s : State) : Out := .next (bitOp 6 .mHL s)

/-- `BIT 6,A` (R521). -/
def exec_bit_6_A (s : State) : Out := .next (bitOp 6 (.reg .a) s)

/-- `BIT 7,B` (R521). -/
def exec_bit_7_B (s : State) : Out := .next (bitOp 7 (.reg .b) s)

/-- `BIT 7,C` (R521). -/
def exec_bit_7_C (s : State) : Out := .next (bitOp 7 (.reg .c) s)

/-- `BIT 7,D` (R521). -/
def exec_bit_7_D (s : State) : Out := .next (bitOp 7 (.reg .d) s)

/-- `BIT 7,E` (R521). -/
def exec_bit_7_E (s : State) : Out := .next (bitOp 7 (.reg .e) s)

/-- `BIT 7,H` (R521). -/
def exec_bit_7_H (s : State) : Out := .next (bitOp 7 (.reg .h) s)

/-- `BIT 7,L` (R521). -/
def exec_bit_7_L (s : State) : Out := .next (bitOp 7 (.reg .l) s)

/-- `BIT 7,(HL)` (R522). -/
def exec_bit_7_mHL (s : State) : Out := .next (bitOp 7 .mHL s)

/-- `BIT 7,A` (R521). -/
def exec_bit_7_A (s : State) : Out := .next (bitOp 7 (.reg .a) s)

/-- `RES 0,B` (R523). -/
def exec_res_0_B (s : State) : Out := .next (resOp 0 (.reg .b) s)

/-- `RES 0,C` (R523). -/
def exec_res_0_C (s : State) : Out := .next (resOp 0 (.reg .c) s)

/-- `RES 0,D` (R523). -/
def exec_res_0_D (s : State) : Out := .next (resOp 0 (.reg .d) s)

/-- `RES 0,E` (R523). -/
def exec_res_0_E (s : State) : Out := .next (resOp 0 (.reg .e) s)

/-- `RES 0,H` (R523). -/
def exec_res_0_H (s : State) : Out := .next (resOp 0 (.reg .h) s)

/-- `RES 0,L` (R523). -/
def exec_res_0_L (s : State) : Out := .next (resOp 0 (.reg .l) s)

/-- `RES 0,(HL)` (R524). -/
def exec_res_0_mHL (s : State) : Out := .next (resOp 0 .mHL s)

/-- `RES 0,A` (R523). -/
def exec_res_0_A (s : State) : Out := .next (resOp 0 (.reg .a) s)

/-- `RES 1,B` (R523). -/
def exec_res_1_B (s : State) : Out := .next (resOp 1 (.reg .b) s)

/-- `RES 1,C` (R523). -/
def exec_res_1_C (s : State) : Out := .next (resOp 1 (.reg .c) s)

/-- `RES 1,D` (R523). -/
def exec_res_1_D (s : State) : Out := .next (resOp 1 (.reg .d) s)

/-- `RES 1,E` (R523). -/
def exec_res_1_E (s : State) : Out := .next (resOp 1 (.reg .e) s)

/-- `RES 1,H` (R523). -/
def exec_res_1_H (s : State) : Out := .next (resOp 1 (.reg .h) s)

/-- `RES 1,L` (R523). -/
def exec_res_1_L (s : State) : Out := .next (resOp 1 (.reg .l) s)

/-- `RES 1,(HL)` (R524). -/
def exec_res_1_mHL (s : State) : Out := .next (resOp 1 .mHL s)

/-- `RES 1,A` (R523). -/
def exec_res_1_A (s : State) : Out := .next (resOp 1 (.reg .a) s)

/-- `RES 2,B` (R523). -/
def exec_res_2_B (s : State) : Out := .next (resOp 2 (.reg .b) s)

/-- `RES 2,C` (R523). -/
def exec_res_2_C (s : State) : Out := .next (resOp 2 (.reg .c) s)

/-- `RES 2,D` (R523). -/
def exec_res_2_D (s : State) : Out := .next (resOp 2 (.reg .d) s)

/-- `RES 2,E` (R523). -/
def exec_res_2_E (s : State) : Out := .next (resOp 2 (.reg .e) s)

/-- `RES 2,H` (R523). -/
def exec_res_2_H (s : State) : Out := .next (resOp 2 (.reg .h) s)

/-- `RES 2,L` (R523). -/
def exec_res_2_L (s : State) : Out := .next (resOp 2 (.reg .l) s)

/-- `RES 2,(HL)` (R524). -/
def exec_res_2_mHL (s : State) : Out := .next (resOp 2 .mHL s)

/-- `RES 2,A` (R523). -/
def exec_res_2_A (s : State) : Out := .next (resOp 2 (.reg .a) s)

/-- `RES 3,B` (R523). -/
def exec_res_3_B (s : State) : Out := .next (resOp 3 (.reg .b) s)

/-- `RES 3,C` (R523). -/
def exec_res_3_C (s : State) : Out := .next (resOp 3 (.reg .c) s)

/-- `RES 3,D` (R523). -/
def exec_res_3_D (s : State) : Out := .next (resOp 3 (.reg .d) s)

/-- `RES 3,E` (R523). -/
def exec_res_3_E (s : State) : Out := .next (resOp 3 (.reg .e) s)

/-- `RES 3,H` (R523). -/
def exec_res_3_H (s : State) : Out := .next (resOp 3 (.reg .h) s)

/-- `RES 3,L` (R523). -/
def exec_res_3_L (s : State) : Out := .next (resOp 3 (.reg .l) s)

/-- `RES 3,(HL)` (R524). -/
def exec_res_3_mHL (s : State) : Out := .next (resOp 3 .mHL s)

/-- `RES 3,A` (R523). -/
def exec_res_3_A (s : State) : Out := .next (resOp 3 (.reg .a) s)

/-- `RES 4,B` (R523). -/
def exec_res_4_B (s : State) : Out := .next (resOp 4 (.reg .b) s)

/-- `RES 4,C` (R523). -/
def exec_res_4_C (s : State) : Out := .next (resOp 4 (.reg .c) s)

/-- `RES 4,D` (R523). -/
def exec_res_4_D (s : State) : Out := .next (resOp 4 (.reg .d) s)

/-- `RES 4,E` (R523). -/
def exec_res_4_E (s : State) : Out := .next (resOp 4 (.reg .e) s)

/-- `RES 4,H` (R523). -/
def exec_res_4_H (s : State) : Out := .next (resOp 4 (.reg .h) s)

/-- `RES 4,L` (R523). -/
def exec_res_4_L (s : State) : Out := .next (resOp 4 (.reg .l) s)

/-- `RES 4,(HL)` (R524). -/
def exec_res_4_mHL (s : State) : Out := .next (resOp 4 .mHL s)

/-- `RES 4,A` (R523). -/
def exec_res_4_A (s : State) : Out := .next (resOp 4 (.reg .a) s)

/-- `RES 5,B` (R523). -/
def exec_res_5_B (s : State) : Out := .next (resOp 5 (.reg .b) s)

/-- `RES 5,C` (R523). -/
def exec_res_5_C (s : State) : Out := .next (resOp 5 (.reg .c) s)

/-- `RES 5,D` (R523). -/
def exec_res_5_D (s : State) : Out := .next (resOp 5 (.reg .d) s)

/-- `RES 5,E` (R523). -/
def exec_res_5_E (s : State) : Out := .next (resOp 5 (.reg .e) s)

/-- `RES 5,H` (R523). -/
def exec_res_5_H (s : State) : Out := .next (resOp 5 (.reg .h) s)

/-- `RES 5,L` (R523). -/
def exec_res_5_L (s : State) : Out := .next (resOp 5 (.reg .l) s)

/-- `RES 5,(HL)` (R524). -/
def exec_res_5_mHL (s : State) : Out := .next (resOp 5 .mHL s)

/-- `RES 5,A` (R523). -/
def exec_res_5_A (s : State) : Out := .next (resOp 5 (.reg .a) s)

/-- `RES 6,B` (R523). -/
def exec_res_6_B (s : State) : Out := .next (resOp 6 (.reg .b) s)

/-- `RES 6,C` (R523). -/
def exec_res_6_C (s : State) : Out := .next (resOp 6 (.reg .c) s)

/-- `RES 6,D` (R523). -/
def exec_res_6_D (s : State) : Out := .next (resOp 6 (.reg .d) s)

/-- `RES 6,E` (R523). -/
def exec_res_6_E (s : State) : Out := .next (resOp 6 (.reg .e) s)

/-- `RES 6,H` (R523). -/
def exec_res_6_H (s : State) : Out := .next (resOp 6 (.reg .h) s)

/-- `RES 6,L` (R523). -/
def exec_res_6_L (s : State) : Out := .next (resOp 6 (.reg .l) s)

/-- `RES 6,(HL)` (R524). -/
def exec_res_6_mHL (s : State) : Out := .next (resOp 6 .mHL s)

/-- `RES 6,A` (R523). -/
def exec_res_6_A (s : State) : Out := .next (resOp 6 (.reg .a) s)

/-- `RES 7,B` (R523). -/
def exec_res_7_B (s : State) : Out := .next (resOp 7 (.reg .b) s)

/-- `RES 7,C` (R523). -/
def exec_res_7_C (s : State) : Out := .next (resOp 7 (.reg .c) s)

/-- `RES 7,D` (R523). -/
def exec_res_7_D (s : State) : Out := .next (resOp 7 (.reg .d) s)

/-- `RES 7,E` (R523). -/
def exec_res_7_E (s : State) : Out := .next (resOp 7 (.reg .e) s)

/-- `RES 7,H` (R523). -/
def exec_res_7_H (s : State) : Out := .next (resOp 7 (.reg .h) s)

/-- `RES 7,L` (R523). -/
def exec_res_7_L (s : State) : Out := .next (resOp 7 (.reg .l) s)

/-- `RES 7,(HL)` (R524). -/
def exec_res_7_mHL (s : State) : Out := .next (resOp 7 .mHL s)

/-- `RES 7,A` (R523). -/
def exec_res_7_A (s : State) : Out := .next (resOp 7 (.reg .a) s)

/-- `SET 0,B` (R525). -/
def exec_set_0_B (s : State) : Out := .next (setOp 0 (.reg .b) s)

/-- `SET 0,C` (R525). -/
def exec_set_0_C (s : State) : Out := .next (setOp 0 (.reg .c) s)

/-- `SET 0,D` (R525). -/
def exec_set_0_D (s : State) : Out := .next (setOp 0 (.reg .d) s)

/-- `SET 0,E` (R525). -/
def exec_set_0_E (s : State) : Out := .next (setOp 0 (.reg .e) s)

/-- `SET 0,H` (R525). -/
def exec_set_0_H (s : State) : Out := .next (setOp 0 (.reg .h) s)

/-- `SET 0,L` (R525). -/
def exec_set_0_L (s : State) : Out := .next (setOp 0 (.reg .l) s)

/-- `SET 0,(HL)` (R526). -/
def exec_set_0_mHL (s : State) : Out := .next (setOp 0 .mHL s)

/-- `SET 0,A` (R525). -/
def exec_set_0_A (s : State) : Out := .next (setOp 0 (.reg .a) s)

/-- `SET 1,B` (R525). -/
def exec_set_1_B (s : State) : Out := .next (setOp 1 (.reg .b) s)

/-- `SET 1,C` (R525). -/
def exec_set_1_C (s : State) : Out := .next (setOp 1 (.reg .c) s)

/-- `SET 1,D` (R525). -/
def exec_set_1_D (s : State) : Out := .next (setOp 1 (.reg .d) s)

/-- `SET 1,E` (R525). -/
def exec_set_1_E (s : State) : Out := .next (setOp 1 (.reg .e) s)

/-- `SET 1,H` (R525). -/
def exec_set_1_H (s : State) : Out := .next (setOp 1 (.reg .h) s)

/-- `SET 1,L` (R525). -/
def exec_set_1_L (s : State) : Out := .next (setOp 1 (.reg .l) s)

/-- `SET 1,(HL)` (R526). -/
def exec_set_1_mHL (s : State) : Out := .next (setOp 1 .mHL s)

/-- `SET 1,A` (R525). -/
def exec_set_1_A (s : State) : Out := .next (setOp 1 (.reg .a) s)

/-- `SET 2,B` (R525). -/
def exec_set_2_B (s : State) : Out := .next (setOp 2 (.reg .b) s)

/-- `SET 2,C` (R525). -/
def exec_set_2_C (s : State) : Out := .next (setOp 2 (.reg .c) s)

/-- `SET 2,D` (R525). -/
def exec_set_2_D (s : State) : Out := .next (setOp 2 (.reg .d) s)

/-- `SET 2,E` (R525). -/
def exec_set_2_E (s : State) : Out := .next (setOp 2 (.reg .e) s)

/-- `SET 2,H` (R525). -/
def exec_set_2_H (s : State) : Out := .next (setOp 2 (.reg .h) s)

/-- `SET 2,L` (R525). -/
def exec_set_2_L (s : State) : Out := .next (setOp 2 (.reg .l) s)

/-- `SET 2,(HL)` (R526). -/
def exec_set_2_mHL (s : State) : Out := .next (setOp 2 .mHL s)

/-- `SET 2,A` (R525). -/
def exec_set_2_A (s : State) : Out := .next (setOp 2 (.reg .a) s)

/-- `SET 3,B` (R525). -/
def exec_set_3_B (s : State) : Out := .next (setOp 3 (.reg .b) s)

/-- `SET 3,C` (R525). -/
def exec_set_3_C (s : State) : Out := .next (setOp 3 (.reg .c) s)

/-- `SET 3,D` (R525). -/
def exec_set_3_D (s : State) : Out := .next (setOp 3 (.reg .d) s)

/-- `SET 3,E` (R525). -/
def exec_set_3_E (s : State) : Out := .next (setOp 3 (.reg .e) s)

/-- `SET 3,H` (R525). -/
def exec_set_3_H (s : State) : Out := .next (setOp 3 (.reg .h) s)

/-- `SET 3,L` (R525). -/
def exec_set_3_L (s : State) : Out := .next (setOp 3 (.reg .l) s)

/-- `SET 3,(HL)` (R526). -/
def exec_set_3_mHL (s : State) : Out := .next (setOp 3 .mHL s)

/-- `SET 3,A` (R525). -/
def exec_set_3_A (s : State) : Out := .next (setOp 3 (.reg .a) s)

/-- `SET 4,B` (R525). -/
def exec_set_4_B (s : State) : Out := .next (setOp 4 (.reg .b) s)

/-- `SET 4,C` (R525). -/
def exec_set_4_C (s : State) : Out := .next (setOp 4 (.reg .c) s)

/-- `SET 4,D` (R525). -/
def exec_set_4_D (s : State) : Out := .next (setOp 4 (.reg .d) s)

/-- `SET 4,E` (R525). -/
def exec_set_4_E (s : State) : Out := .next (setOp 4 (.reg .e) s)

/-- `SET 4,H` (R525). -/
def exec_set_4_H (s : State) : Out := .next (setOp 4 (.reg .h) s)

/-- `SET 4,L` (R525). -/
def exec_set_4_L (s : State) : Out := .next (setOp 4 (.reg .l) s)

/-- `SET 4,(HL)` (R526). -/
def exec_set_4_mHL (s : State) : Out := .next (setOp 4 .mHL s)

/-- `SET 4,A` (R525). -/
def exec_set_4_A (s : State) : Out := .next (setOp 4 (.reg .a) s)

/-- `SET 5,B` (R525). -/
def exec_set_5_B (s : State) : Out := .next (setOp 5 (.reg .b) s)

/-- `SET 5,C` (R525). -/
def exec_set_5_C (s : State) : Out := .next (setOp 5 (.reg .c) s)

/-- `SET 5,D` (R525). -/
def exec_set_5_D (s : State) : Out := .next (setOp 5 (.reg .d) s)

/-- `SET 5,E` (R525). -/
def exec_set_5_E (s : State) : Out := .next (setOp 5 (.reg .e) s)

/-- `SET 5,H` (R525). -/
def exec_set_5_H (s : State) : Out := .next (setOp 5 (.reg .h) s)

/-- `SET 5,L` (R525). -/
def exec_set_5_L (s : State) : Out := .next (setOp 5 (.reg .l) s)

/-- `SET 5,(HL)` (R526). -/
def exec_set_5_mHL (s : State) : Out := .next (setOp 5 .mHL s)

/-- `SET 5,A` (R525). -/
def exec_set_5_A (s : State) : Out := .next (setOp 5 (.reg .a) s)

/-- `SET 6,B` (R525). -/
def exec_set_6_B (s : State) : Out := .next (setOp 6 (.reg .b) s)

/-- `SET 6,C` (R525). -/
def exec_set_6_C (s : State) : Out := .next (setOp 6 (.reg .c) s)

/-- `SET 6,D` (R525). -/
def exec_set_6_D (s : State) : Out := .next (setOp 6 (.reg .d) s)

/-- `SET 6,E` (R525). -/
def exec_set_6_E (s : State) : Out := .next (setOp 6 (.reg .e) s)

/-- `SET 6,H` (R525). -/
def exec_set_6_H (s : State) : Out := .next (setOp 6 (.reg .h) s)

/-- `SET 6,L` (R525). -/
def exec_set_6_L (s : State) : Out := .next (setOp 6 (.reg .l) s)

/-- `SET 6,(HL)` (R526). -/
def exec_set_6_mHL (s : State) : Out := .next (setOp 6 .mHL s)

/-- `SET 6,A` (R525). -/
def exec_set_6_A (s : State) : Out := .next (setOp 6 (.reg .a) s)

/-- `SET 7,B` (R525). -/
def exec_set_7_B (s : State) : Out := .next (setOp 7 (.reg .b) s)

/-- `SET 7,C` (R525). -/
def exec_set_7_C (s : State) : Out := .next (setOp 7 (.reg .c) s)

/-- `SET 7,D` (R525). -/
def exec_set_7_D (s : State) : Out := .next (setOp 7 (.reg .d) s)

/-- `SET 7,E` (R525). -/
def exec_set_7_E (s : State) : Out := .next (setOp 7 (.reg .e) s)

/-- `SET 7,H` (R525). -/
def exec_set_7_H (s : State) : Out := .next (setOp 7 (.reg .h) s)

/-- `SET 7,L` (R525). -/
def exec_set_7_L (s : State) : Out := .next (setOp 7 (.reg .l) s)

/-- `SET 7,(HL)` (R526). -/
def exec_set_7_mHL (s : State) : Out := .next (setOp 7 .mHL s)

/-- `SET 7,A` (R525). -/
def exec_set_7_A (s : State) : Out := .next (setOp 7 (.reg .a) s)

end Sys2Proof.Machine
end

