-- ==== Sys2Proof/Machine/Stack.lean ====
section
/-! DEFINITION. PUSH and POP (spec/46_stack.md). -/

namespace Sys2Proof.Machine

/-- PUSH rr (R702). -/
def pushOp (r : R16Stk) (s : State) : State := (s.push16 (s.getStk r)).charge 16

/-- POP rr; for AF the low nibble of F is dropped (R703, R704). -/
def popOp (r : R16Stk) (s : State) : State :=
  let (v, t) := s.pop16
  (t.setStk r v).charge 12

/-! ## One meaning per row -/

/-- `POP BC` (R703). -/
def exec_pop_BC (s : State) : Out := .next (popOp .bc s)

/-- `PUSH BC` (R702). -/
def exec_push_BC (s : State) : Out := .next (pushOp .bc s)

/-- `POP DE` (R703). -/
def exec_pop_DE (s : State) : Out := .next (popOp .de s)

/-- `PUSH DE` (R702). -/
def exec_push_DE (s : State) : Out := .next (pushOp .de s)

/-- `POP HL` (R703). -/
def exec_pop_HL (s : State) : Out := .next (popOp .hl s)

/-- `PUSH HL` (R702). -/
def exec_push_HL (s : State) : Out := .next (pushOp .hl s)

/-- `POP AF` (R704). -/
def exec_pop_AF (s : State) : Out := .next (popOp .af s)

/-- `PUSH AF` (R702). -/
def exec_push_AF (s : State) : Out := .next (pushOp .af s)

end Sys2Proof.Machine
end

