-- ==== Sys2Proof/Machine/System.lean ====
section
/-! DEFINITION. System and control instructions (spec/47_system.md): NOP, the prefix, the eleven illegal bytes, HALT, STOP,
DI, EI. -/

namespace Sys2Proof.Machine

/-- NOP: nothing but its cost (R750). -/
def nopOp (s : State) : State := s.charge 4

/-- HALT (R753). -/
def haltOp (s : State) : State := State.charge 4 { s with run := .halted }

/-- STOP. The second byte has been fetched and is ignored (R324, R754). -/
def stopOp (s : State) : State := State.charge 4 { s with run := .stopped }

/-- DI: clears IME and the step's copy of `ei_pending` (R756). -/
def diOp (s : State) : State := State.charge 4 { s with ime := false, apply := false }

/-- EI: sets `ei_pending`; IME follows at the end of the next instruction (R757, R902). -/
def eiOp (s : State) : State := State.charge 4 { s with eiPending := true }

/-- PREFIX CB: execute the entry of the extended table at `op2` (R303, R309, R751). The prefix's cost is in the
extended entry's total (R322). -/
def prefixOp (op2 : Byte) (s : State) : State :=
  let o := Opnd8.ofCode (opZ op2)
  match opX op2 with
  | 0 => rotOp (.ofCode (opY op2)) o s
  | 1 => bitOp (opY op2) o s
  | 2 => resOp (opY op2) o s
  | _ => setOp (opY op2) o s

/-! ## One meaning per row -/

/-- `NOP` (R750). -/
def exec_nop (s : State) : Out := .next (nopOp s)

/-- `STOP` (R754). -/
def exec_stop (_x : Byte) (s : State) : Out := .next (stopOp s)

/-- `HALT` (R753). -/
def exec_halt (s : State) : Out := .next (haltOp s)

/-- `PREFIX CB` (R751). -/
def exec_prefixCB (op2 : Byte) (s : State) : Out := .next (prefixOp op2 s)

/-- `ILLEGAL D3` (R752). -/
def exec_illegal_D3 (s : State) : Out := .next (s.raiseIllegal 0xD3)

/-- `ILLEGAL DB` (R752). -/
def exec_illegal_DB (s : State) : Out := .next (s.raiseIllegal 0xDB)

/-- `ILLEGAL DD` (R752). -/
def exec_illegal_DD (s : State) : Out := .next (s.raiseIllegal 0xDD)

/-- `ILLEGAL E3` (R752). -/
def exec_illegal_E3 (s : State) : Out := .next (s.raiseIllegal 0xE3)

/-- `ILLEGAL E4` (R752). -/
def exec_illegal_E4 (s : State) : Out := .next (s.raiseIllegal 0xE4)

/-- `ILLEGAL EB` (R752). -/
def exec_illegal_EB (s : State) : Out := .next (s.raiseIllegal 0xEB)

/-- `ILLEGAL EC` (R752). -/
def exec_illegal_EC (s : State) : Out := .next (s.raiseIllegal 0xEC)

/-- `ILLEGAL ED` (R752). -/
def exec_illegal_ED (s : State) : Out := .next (s.raiseIllegal 0xED)

/-- `DI` (R756). -/
def exec_di (s : State) : Out := .next (diOp s)

/-- `ILLEGAL F4` (R752). -/
def exec_illegal_F4 (s : State) : Out := .next (s.raiseIllegal 0xF4)

/-- `EI` (R757). -/
def exec_ei (s : State) : Out := .next (eiOp s)

/-- `ILLEGAL FC` (R752). -/
def exec_illegal_FC (s : State) : Out := .next (s.raiseIllegal 0xFC)

/-- `ILLEGAL FD` (R752). -/
def exec_illegal_FD (s : State) : Out := .next (s.raiseIllegal 0xFD)

end Sys2Proof.Machine
end

