-- ==== Sys2Proof/Machine/Execute.lean ====
section
/-! DEFINITION. The step that executes an instruction (spec/70_reset_and_hazards.md R900 steps 4 to 8). -/

namespace Sys2Proof.Machine

/-- Apply a change to the state of an outcome that goes on. -/
def Out.mapNext (g : State → State) : Out → Out
  | .next t => .next (g t)
  | .fault r => .fault r
  | .refused r => .refused r

/-- The step that executes an instruction (R900 steps 4 to 8). -/
def State.executeStep (s : State) : Out :=
  let (i, t) := s.beginInstr.fetch
  Out.mapNext State.endInstr (exec i t)

end Sys2Proof.Machine
end

