-- ==== Sys2Proof/Machine/Step.lean ====
section
/-! DEFINITION. One step of the machine (spec/70_reset_and_hazards.md R900). -/

namespace Sys2Proof.Machine

/-- One step (R900). What it returns (R903) is in the next state's `result`. -/
def step (s : State) : Host.Outcome State Fault Refusal :=
  let t := s.takeInput
  match t.stepKind s.input.wake with
  | .repeatError => .next t.repeatError
  | .dispatch => .next t.takeInterrupt
  | .wake => .next t.wakeStep
  | .sleep => .next t.sleepStep
  | .execute => t.executeStep

/-- The machine ready to fetch the table word `w` as its next instruction: its bytes, zeros after them, stand at PC, and
the core is Running in primary mode, with interrupts masked where there are any, so the next step fetches (R900). -/
def State.withFetchWord (s : State) (nbits w : Nat) : State :=
  let bytes := tableBytes nbits w
  let t := { s with
    run := .running, mode := .primary,
    ime := s.ime && decide (s.params.irqModel = IrqModel.absent) }
  let t := t.memWrite s.pc (bytes.getD 0 0)
  let t := t.memWrite (s.pc + 1) (bytes.getD 1 0)
  t.memWrite (s.pc + 2) (bytes.getD 2 0)

end Sys2Proof.Machine
end

