-- ==== Sys2Proof/Machine/Frame.lean ====
section
/-! DEFINITION. The frame loop outside the core (spec/70_reset_and_hazards.md R951 to R953). -/

namespace Sys2Proof.Machine

/-- What a frame returns (R951). -/
inductive FrameResult where
  /-- `FrameDone(acc)`: the accumulator reached the budget. -/
  | frameDone (acc : Nat)
  /-- `FrameError(e, acc)`: a step returned an error. -/
  | frameError (e : IllegalOpcode) (acc : Nat)
  /-- The loop was cut short with the accumulator below the budget: the bound on its steps was used up, or a step
  returned nothing. No frame ends so (R952). -/
  | frameOpen (acc : Nat)
  deriving DecidableEq, Repr

/-- The loop of R951 from an accumulator, for at most `fuel` steps: step while the accumulator is below the budget. -/
def runFrameFrom : (fuel acc : Nat) → State → FrameResult × State
  | 0, acc, s => (if acc < Config.frameBudget then .frameOpen acc else .frameDone acc, s)
  | fuel + 1, acc, s =>
    if acc < Config.frameBudget then
      match step s with
      | .next t =>
        match t.result with
        | some (.cycles n) => runFrameFrom fuel (acc + n) t
        | some (.error e) => (.frameError e acc, t)
        | none => (.frameOpen acc, t)
      | .fault _ => (.frameOpen acc, s)
      | .refused _ => (.frameOpen acc, s)
    else (.frameDone acc, s)

/-- The most steps a frame takes: a step that goes on costs at least 4 cycles (R952). -/
def frameStepBound : Nat := 17477

/-- `run_frame(m)` (R951): the accumulator starts at 0 each frame, and the machine's state carries over (R953). -/
def runFrame (s : State) : FrameResult × State := runFrameFrom frameStepBound 0 s

end Sys2Proof.Machine
end

