-- ==== Sys2Proof/Safety.lean ====
section
/-! DEFINITION. What counts as a safe run, and the invariant of the machine between steps, in the terms claims use. -/

namespace Sys2Proof.Machine

/-- A claim about a run takes "no HaltedError reached" as a premise (spec/93_implementation_defined.md U1). -/
def State.Safe (s : State) : Prop := s.run ≠ .haltedError

/-- What holds of the machine between steps. -/
structure State.Inv (s : State) : Prop where
  /-- Memory is in its canonical form. -/
  memCanonical : s.mem.wf = true
  /-- Bits 3 to 0 of F are zero (R113, R114). -/
  flagsMasked : s.f &&& 0x0F = 0
  /-- The step-local copy of `ei_pending` is not set between steps (R902). -/
  applyClear : s.apply = false
  /-- The decoder is in primary mode at every step boundary (R125). -/
  modePrimary : s.mode = .primary
  /-- The error record is written when, and only when, the core enters HaltedError (R126, R801). -/
  errorRecorded : s.run = .haltedError ↔ s.err.isSome = true
  /-- `ei_pending` is set only between an EI step and the next, and then the core is Running (R902). -/
  eiWhileRunning : s.eiPending = true → s.run = .running

/-- A state that a created machine can reach: some parameters, an image of 65,536 bytes, some host inputs, and some
number of steps (R950, R956). -/
inductive Reachable : State → Prop where
  | create (params : Params) (image : List Byte) (inputs : List HostInput)
      (h : image.length = Config.memorySize) : Reachable { create params image with inputs := inputs }
  | step (s t : State) (hs : Reachable s) (h : step s = .next t) : Reachable t

end Sys2Proof.Machine
end

