-- ==== Sys2Proof/Laws/State.lean ====
section
/-! SUPPORT. What each named update of the state does to each field: one lemma per field per update, so that no later
proof unfolds a record update. -/

namespace Sys2Proof.Machine

/-! ## `setSp` -/

@[simp] theorem State.setSp_a (s : State) (v : Word) : (s.setSp v).a = s.a := rfl
@[simp] theorem State.setSp_f (s : State) (v : Word) : (s.setSp v).f = s.f := rfl
@[simp] theorem State.setSp_b (s : State) (v : Word) : (s.setSp v).b = s.b := rfl
@[simp] theorem State.setSp_c (s : State) (v : Word) : (s.setSp v).c = s.c := rfl
@[simp] theorem State.setSp_d (s : State) (v : Word) : (s.setSp v).d = s.d := rfl
@[simp] theorem State.setSp_e (s : State) (v : Word) : (s.setSp v).e = s.e := rfl
@[simp] theorem State.setSp_h (s : State) (v : Word) : (s.setSp v).h = s.h := rfl
@[simp] theorem State.setSp_l (s : State) (v : Word) : (s.setSp v).l = s.l := rfl
@[simp] theorem State.setSp_sp (s : State) (v : Word) : (s.setSp v).sp = v := rfl
@[simp] theorem State.setSp_pc (s : State) (v : Word) : (s.setSp v).pc = s.pc := rfl
@[simp] theorem State.setSp_ime (s : State) (v : Word) : (s.setSp v).ime = s.ime := rfl
@[simp] theorem State.setSp_eiPending (s : State) (v : Word) : (s.setSp v).eiPending = s.eiPending := rfl
@[simp] theorem State.setSp_apply (s : State) (v : Word) : (s.setSp v).apply = s.apply := rfl
@[simp] theorem State.setSp_run (s : State) (v : Word) : (s.setSp v).run = s.run := rfl
@[simp] theorem State.setSp_mode (s : State) (v : Word) : (s.setSp v).mode = s.mode := rfl
@[simp] theorem State.setSp_err (s : State) (v : Word) : (s.setSp v).err = s.err := rfl
@[simp] theorem State.setSp_mem (s : State) (v : Word) : (s.setSp v).mem = s.mem := rfl
@[simp] theorem State.setSp_params (s : State) (v : Word) : (s.setSp v).params = s.params := rfl
@[simp] theorem State.setSp_inputs (s : State) (v : Word) : (s.setSp v).inputs = s.inputs := rfl
@[simp] theorem State.setSp_result (s : State) (v : Word) : (s.setSp v).result = s.result := rfl

/-! ## `setPc` -/

@[simp] theorem State.setPc_a (s : State) (v : Word) : (s.setPc v).a = s.a := rfl
@[simp] theorem State.setPc_f (s : State) (v : Word) : (s.setPc v).f = s.f := rfl
@[simp] theorem State.setPc_b (s : State) (v : Word) : (s.setPc v).b = s.b := rfl
@[simp] theorem State.setPc_c (s : State) (v : Word) : (s.setPc v).c = s.c := rfl
@[simp] theorem State.setPc_d (s : State) (v : Word) : (s.setPc v).d = s.d := rfl
@[simp] theorem State.setPc_e (s : State) (v : Word) : (s.setPc v).e = s.e := rfl
@[simp] theorem State.setPc_h (s : State) (v : Word) : (s.setPc v).h = s.h := rfl
@[simp] theorem State.setPc_l (s : State) (v : Word) : (s.setPc v).l = s.l := rfl
@[simp] theorem State.setPc_sp (s : State) (v : Word) : (s.setPc v).sp = s.sp := rfl
@[simp] theorem State.setPc_pc (s : State) (v : Word) : (s.setPc v).pc = v := rfl
@[simp] theorem State.setPc_ime (s : State) (v : Word) : (s.setPc v).ime = s.ime := rfl
@[simp] theorem State.setPc_eiPending (s : State) (v : Word) : (s.setPc v).eiPending = s.eiPending := rfl
@[simp] theorem State.setPc_apply (s : State) (v : Word) : (s.setPc v).apply = s.apply := rfl
@[simp] theorem State.setPc_run (s : State) (v : Word) : (s.setPc v).run = s.run := rfl
@[simp] theorem State.setPc_mode (s : State) (v : Word) : (s.setPc v).mode = s.mode := rfl
@[simp] theorem State.setPc_err (s : State) (v : Word) : (s.setPc v).err = s.err := rfl
@[simp] theorem State.setPc_mem (s : State) (v : Word) : (s.setPc v).mem = s.mem := rfl
@[simp] theorem State.setPc_params (s : State) (v : Word) : (s.setPc v).params = s.params := rfl
@[simp] theorem State.setPc_inputs (s : State) (v : Word) : (s.setPc v).inputs = s.inputs := rfl
@[simp] theorem State.setPc_result (s : State) (v : Word) : (s.setPc v).result = s.result := rfl

/-! ## `charge` -/

@[simp] theorem State.charge_a (s : State) (n : Nat) : (State.charge n s).a = s.a := rfl
@[simp] theorem State.charge_f (s : State) (n : Nat) : (State.charge n s).f = s.f := rfl
@[simp] theorem State.charge_b (s : State) (n : Nat) : (State.charge n s).b = s.b := rfl
@[simp] theorem State.charge_c (s : State) (n : Nat) : (State.charge n s).c = s.c := rfl
@[simp] theorem State.charge_d (s : State) (n : Nat) : (State.charge n s).d = s.d := rfl
@[simp] theorem State.charge_e (s : State) (n : Nat) : (State.charge n s).e = s.e := rfl
@[simp] theorem State.charge_h (s : State) (n : Nat) : (State.charge n s).h = s.h := rfl
@[simp] theorem State.charge_l (s : State) (n : Nat) : (State.charge n s).l = s.l := rfl
@[simp] theorem State.charge_sp (s : State) (n : Nat) : (State.charge n s).sp = s.sp := rfl
@[simp] theorem State.charge_pc (s : State) (n : Nat) : (State.charge n s).pc = s.pc := rfl
@[simp] theorem State.charge_ime (s : State) (n : Nat) : (State.charge n s).ime = s.ime := rfl
@[simp] theorem State.charge_eiPending (s : State) (n : Nat) : (State.charge n s).eiPending = s.eiPending := rfl
@[simp] theorem State.charge_apply (s : State) (n : Nat) : (State.charge n s).apply = s.apply := rfl
@[simp] theorem State.charge_run (s : State) (n : Nat) : (State.charge n s).run = s.run := rfl
@[simp] theorem State.charge_mode (s : State) (n : Nat) : (State.charge n s).mode = s.mode := rfl
@[simp] theorem State.charge_err (s : State) (n : Nat) : (State.charge n s).err = s.err := rfl
@[simp] theorem State.charge_mem (s : State) (n : Nat) : (State.charge n s).mem = s.mem := rfl
@[simp] theorem State.charge_params (s : State) (n : Nat) : (State.charge n s).params = s.params := rfl
@[simp] theorem State.charge_inputs (s : State) (n : Nat) : (State.charge n s).inputs = s.inputs := rfl
@[simp] theorem State.charge_result (s : State) (n : Nat) : (State.charge n s).result = some (.cycles n) := rfl

/-! ## `memWrite` -/

@[simp] theorem State.memWrite_a (s : State) (x : Word) (v : Byte) : (s.memWrite x v).a = s.a := rfl
@[simp] theorem State.memWrite_f (s : State) (x : Word) (v : Byte) : (s.memWrite x v).f = s.f := rfl
@[simp] theorem State.memWrite_b (s : State) (x : Word) (v : Byte) : (s.memWrite x v).b = s.b := rfl
@[simp] theorem State.memWrite_c (s : State) (x : Word) (v : Byte) : (s.memWrite x v).c = s.c := rfl
@[simp] theorem State.memWrite_d (s : State) (x : Word) (v : Byte) : (s.memWrite x v).d = s.d := rfl
@[simp] theorem State.memWrite_e (s : State) (x : Word) (v : Byte) : (s.memWrite x v).e = s.e := rfl
@[simp] theorem State.memWrite_h (s : State) (x : Word) (v : Byte) : (s.memWrite x v).h = s.h := rfl
@[simp] theorem State.memWrite_l (s : State) (x : Word) (v : Byte) : (s.memWrite x v).l = s.l := rfl
@[simp] theorem State.memWrite_sp (s : State) (x : Word) (v : Byte) : (s.memWrite x v).sp = s.sp := rfl
@[simp] theorem State.memWrite_pc (s : State) (x : Word) (v : Byte) : (s.memWrite x v).pc = s.pc := rfl
@[simp] theorem State.memWrite_ime (s : State) (x : Word) (v : Byte) : (s.memWrite x v).ime = s.ime := rfl
@[simp] theorem State.memWrite_eiPending (s : State) (x : Word) (v : Byte) : (s.memWrite x v).eiPending = s.eiPending := rfl
@[simp] theorem State.memWrite_apply (s : State) (x : Word) (v : Byte) : (s.memWrite x v).apply = s.apply := rfl
@[simp] theorem State.memWrite_run (s : State) (x : Word) (v : Byte) : (s.memWrite x v).run = s.run := rfl
@[simp] theorem State.memWrite_mode (s : State) (x : Word) (v : Byte) : (s.memWrite x v).mode = s.mode := rfl
@[simp] theorem State.memWrite_err (s : State) (x : Word) (v : Byte) : (s.memWrite x v).err = s.err := rfl
@[simp] theorem State.memWrite_mem (s : State) (x : Word) (v : Byte) : (s.memWrite x v).mem = s.mem.writeAt x.toNat v := rfl
@[simp] theorem State.memWrite_params (s : State) (x : Word) (v : Byte) : (s.memWrite x v).params = s.params := rfl
@[simp] theorem State.memWrite_inputs (s : State) (x : Word) (v : Byte) : (s.memWrite x v).inputs = s.inputs := rfl
@[simp] theorem State.memWrite_result (s : State) (x : Word) (v : Byte) : (s.memWrite x v).result = s.result := rfl

/-! ## `memWrite16` -/

@[simp] theorem State.memWrite16_a (s : State) (x v : Word) : (s.memWrite16 x v).a = s.a := by simp [State.memWrite16]
@[simp] theorem State.memWrite16_f (s : State) (x v : Word) : (s.memWrite16 x v).f = s.f := by simp [State.memWrite16]
@[simp] theorem State.memWrite16_b (s : State) (x v : Word) : (s.memWrite16 x v).b = s.b := by simp [State.memWrite16]
@[simp] theorem State.memWrite16_c (s : State) (x v : Word) : (s.memWrite16 x v).c = s.c := by simp [State.memWrite16]
@[simp] theorem State.memWrite16_d (s : State) (x v : Word) : (s.memWrite16 x v).d = s.d := by simp [State.memWrite16]
@[simp] theorem State.memWrite16_e (s : State) (x v : Word) : (s.memWrite16 x v).e = s.e := by simp [State.memWrite16]
@[simp] theorem State.memWrite16_h (s : State) (x v : Word) : (s.memWrite16 x v).h = s.h := by simp [State.memWrite16]
@[simp] theorem State.memWrite16_l (s : State) (x v : Word) : (s.memWrite16 x v).l = s.l := by simp [State.memWrite16]
@[simp] theorem State.memWrite16_sp (s : State) (x v : Word) : (s.memWrite16 x v).sp = s.sp := by simp [State.memWrite16]
@[simp] theorem State.memWrite16_pc (s : State) (x v : Word) : (s.memWrite16 x v).pc = s.pc := by simp [State.memWrite16]
@[simp] theorem State.memWrite16_ime (s : State) (x v : Word) : (s.memWrite16 x v).ime = s.ime := by simp [State.memWrite16]
@[simp] theorem State.memWrite16_eiPending (s : State) (x v : Word) : (s.memWrite16 x v).eiPending = s.eiPending := by simp [State.memWrite16]
@[simp] theorem State.memWrite16_apply (s : State) (x v : Word) : (s.memWrite16 x v).apply = s.apply := by simp [State.memWrite16]
@[simp] theorem State.memWrite16_run (s : State) (x v : Word) : (s.memWrite16 x v).run = s.run := by simp [State.memWrite16]
@[simp] theorem State.memWrite16_mode (s : State) (x v : Word) : (s.memWrite16 x v).mode = s.mode := by simp [State.memWrite16]
@[simp] theorem State.memWrite16_err (s : State) (x v : Word) : (s.memWrite16 x v).err = s.err := by simp [State.memWrite16]
@[simp] theorem State.memWrite16_params (s : State) (x v : Word) : (s.memWrite16 x v).params = s.params := by simp [State.memWrite16]
@[simp] theorem State.memWrite16_inputs (s : State) (x v : Word) : (s.memWrite16 x v).inputs = s.inputs := by simp [State.memWrite16]
@[simp] theorem State.memWrite16_result (s : State) (x v : Word) : (s.memWrite16 x v).result = s.result := by simp [State.memWrite16]

/-! ## `setF` -/

@[simp] theorem State.setF_a (s : State) (v : Byte) : (s.setF v).a = s.a := rfl
@[simp] theorem State.setF_f (s : State) (v : Byte) : (s.setF v).f = v &&& 0xF0 := rfl
@[simp] theorem State.setF_b (s : State) (v : Byte) : (s.setF v).b = s.b := rfl
@[simp] theorem State.setF_c (s : State) (v : Byte) : (s.setF v).c = s.c := rfl
@[simp] theorem State.setF_d (s : State) (v : Byte) : (s.setF v).d = s.d := rfl
@[simp] theorem State.setF_e (s : State) (v : Byte) : (s.setF v).e = s.e := rfl
@[simp] theorem State.setF_h (s : State) (v : Byte) : (s.setF v).h = s.h := rfl
@[simp] theorem State.setF_l (s : State) (v : Byte) : (s.setF v).l = s.l := rfl
@[simp] theorem State.setF_sp (s : State) (v : Byte) : (s.setF v).sp = s.sp := rfl
@[simp] theorem State.setF_pc (s : State) (v : Byte) : (s.setF v).pc = s.pc := rfl
@[simp] theorem State.setF_ime (s : State) (v : Byte) : (s.setF v).ime = s.ime := rfl
@[simp] theorem State.setF_eiPending (s : State) (v : Byte) : (s.setF v).eiPending = s.eiPending := rfl
@[simp] theorem State.setF_apply (s : State) (v : Byte) : (s.setF v).apply = s.apply := rfl
@[simp] theorem State.setF_run (s : State) (v : Byte) : (s.setF v).run = s.run := rfl
@[simp] theorem State.setF_mode (s : State) (v : Byte) : (s.setF v).mode = s.mode := rfl
@[simp] theorem State.setF_err (s : State) (v : Byte) : (s.setF v).err = s.err := rfl
@[simp] theorem State.setF_mem (s : State) (v : Byte) : (s.setF v).mem = s.mem := rfl
@[simp] theorem State.setF_params (s : State) (v : Byte) : (s.setF v).params = s.params := rfl
@[simp] theorem State.setF_inputs (s : State) (v : Byte) : (s.setF v).inputs = s.inputs := rfl
@[simp] theorem State.setF_result (s : State) (v : Byte) : (s.setF v).result = s.result := rfl

/-! ## `setHl` -/

@[simp] theorem State.setHl_a (s : State) (v : Word) : (s.setHl v).a = s.a := rfl
@[simp] theorem State.setHl_f (s : State) (v : Word) : (s.setHl v).f = s.f := rfl
@[simp] theorem State.setHl_b (s : State) (v : Word) : (s.setHl v).b = s.b := rfl
@[simp] theorem State.setHl_c (s : State) (v : Word) : (s.setHl v).c = s.c := rfl
@[simp] theorem State.setHl_d (s : State) (v : Word) : (s.setHl v).d = s.d := rfl
@[simp] theorem State.setHl_e (s : State) (v : Word) : (s.setHl v).e = s.e := rfl
@[simp] theorem State.setHl_h (s : State) (v : Word) : (s.setHl v).h = hiByte v := rfl
@[simp] theorem State.setHl_l (s : State) (v : Word) : (s.setHl v).l = loByte v := rfl
@[simp] theorem State.setHl_sp (s : State) (v : Word) : (s.setHl v).sp = s.sp := rfl
@[simp] theorem State.setHl_pc (s : State) (v : Word) : (s.setHl v).pc = s.pc := rfl
@[simp] theorem State.setHl_ime (s : State) (v : Word) : (s.setHl v).ime = s.ime := rfl
@[simp] theorem State.setHl_eiPending (s : State) (v : Word) : (s.setHl v).eiPending = s.eiPending := rfl
@[simp] theorem State.setHl_apply (s : State) (v : Word) : (s.setHl v).apply = s.apply := rfl
@[simp] theorem State.setHl_run (s : State) (v : Word) : (s.setHl v).run = s.run := rfl
@[simp] theorem State.setHl_mode (s : State) (v : Word) : (s.setHl v).mode = s.mode := rfl
@[simp] theorem State.setHl_err (s : State) (v : Word) : (s.setHl v).err = s.err := rfl
@[simp] theorem State.setHl_mem (s : State) (v : Word) : (s.setHl v).mem = s.mem := rfl
@[simp] theorem State.setHl_params (s : State) (v : Word) : (s.setHl v).params = s.params := rfl
@[simp] theorem State.setHl_inputs (s : State) (v : Word) : (s.setHl v).inputs = s.inputs := rfl
@[simp] theorem State.setHl_result (s : State) (v : Word) : (s.setHl v).result = s.result := rfl

/-! ## `flags` -/

@[simp] theorem State.flags_a (s : State) (z n h c : Option Bool) : (s.flags z n h c).a = s.a := by simp [State.flags]
@[simp] theorem State.flags_b (s : State) (z n h c : Option Bool) : (s.flags z n h c).b = s.b := by simp [State.flags]
@[simp] theorem State.flags_c (s : State) (z n h c : Option Bool) : (s.flags z n h c).c = s.c := by simp [State.flags]
@[simp] theorem State.flags_d (s : State) (z n h c : Option Bool) : (s.flags z n h c).d = s.d := by simp [State.flags]
@[simp] theorem State.flags_e (s : State) (z n h c : Option Bool) : (s.flags z n h c).e = s.e := by simp [State.flags]
@[simp] theorem State.flags_h (s : State) (z n h c : Option Bool) : (s.flags z n h c).h = s.h := by simp [State.flags]
@[simp] theorem State.flags_l (s : State) (z n h c : Option Bool) : (s.flags z n h c).l = s.l := by simp [State.flags]
@[simp] theorem State.flags_sp (s : State) (z n h c : Option Bool) : (s.flags z n h c).sp = s.sp := by simp [State.flags]
@[simp] theorem State.flags_pc (s : State) (z n h c : Option Bool) : (s.flags z n h c).pc = s.pc := by simp [State.flags]
@[simp] theorem State.flags_ime (s : State) (z n h c : Option Bool) : (s.flags z n h c).ime = s.ime := by simp [State.flags]
@[simp] theorem State.flags_eiPending (s : State) (z n h c : Option Bool) : (s.flags z n h c).eiPending = s.eiPending := by simp [State.flags]
@[simp] theorem State.flags_apply (s : State) (z n h c : Option Bool) : (s.flags z n h c).apply = s.apply := by simp [State.flags]
@[simp] theorem State.flags_run (s : State) (z n h c : Option Bool) : (s.flags z n h c).run = s.run := by simp [State.flags]
@[simp] theorem State.flags_mode (s : State) (z n h c : Option Bool) : (s.flags z n h c).mode = s.mode := by simp [State.flags]
@[simp] theorem State.flags_err (s : State) (z n h c : Option Bool) : (s.flags z n h c).err = s.err := by simp [State.flags]
@[simp] theorem State.flags_mem (s : State) (z n h c : Option Bool) : (s.flags z n h c).mem = s.mem := by simp [State.flags]
@[simp] theorem State.flags_params (s : State) (z n h c : Option Bool) : (s.flags z n h c).params = s.params := by simp [State.flags]
@[simp] theorem State.flags_inputs (s : State) (z n h c : Option Bool) : (s.flags z n h c).inputs = s.inputs := by simp [State.flags]
@[simp] theorem State.flags_result (s : State) (z n h c : Option Bool) : (s.flags z n h c).result = s.result := by simp [State.flags]

/-! ## `setR8` -/

@[simp] theorem State.setR8_f (s : State) (r : R8) (v : Byte) : (s.setR8 r v).f = s.f := by cases r <;> rfl
@[simp] theorem State.setR8_sp (s : State) (r : R8) (v : Byte) : (s.setR8 r v).sp = s.sp := by cases r <;> rfl
@[simp] theorem State.setR8_pc (s : State) (r : R8) (v : Byte) : (s.setR8 r v).pc = s.pc := by cases r <;> rfl
@[simp] theorem State.setR8_ime (s : State) (r : R8) (v : Byte) : (s.setR8 r v).ime = s.ime := by cases r <;> rfl
@[simp] theorem State.setR8_eiPending (s : State) (r : R8) (v : Byte) : (s.setR8 r v).eiPending = s.eiPending := by cases r <;> rfl
@[simp] theorem State.setR8_apply (s : State) (r : R8) (v : Byte) : (s.setR8 r v).apply = s.apply := by cases r <;> rfl
@[simp] theorem State.setR8_run (s : State) (r : R8) (v : Byte) : (s.setR8 r v).run = s.run := by cases r <;> rfl
@[simp] theorem State.setR8_mode (s : State) (r : R8) (v : Byte) : (s.setR8 r v).mode = s.mode := by cases r <;> rfl
@[simp] theorem State.setR8_err (s : State) (r : R8) (v : Byte) : (s.setR8 r v).err = s.err := by cases r <;> rfl
@[simp] theorem State.setR8_mem (s : State) (r : R8) (v : Byte) : (s.setR8 r v).mem = s.mem := by cases r <;> rfl
@[simp] theorem State.setR8_params (s : State) (r : R8) (v : Byte) : (s.setR8 r v).params = s.params := by cases r <;> rfl
@[simp] theorem State.setR8_inputs (s : State) (r : R8) (v : Byte) : (s.setR8 r v).inputs = s.inputs := by cases r <;> rfl
@[simp] theorem State.setR8_result (s : State) (r : R8) (v : Byte) : (s.setR8 r v).result = s.result := by cases r <;> rfl

/-! ## `setR16` -/

@[simp] theorem State.setR16_a (s : State) (r : R16) (v : Word) : (s.setR16 r v).a = s.a := by cases r <;> rfl
@[simp] theorem State.setR16_f (s : State) (r : R16) (v : Word) : (s.setR16 r v).f = s.f := by cases r <;> rfl
@[simp] theorem State.setR16_pc (s : State) (r : R16) (v : Word) : (s.setR16 r v).pc = s.pc := by cases r <;> rfl
@[simp] theorem State.setR16_ime (s : State) (r : R16) (v : Word) : (s.setR16 r v).ime = s.ime := by cases r <;> rfl
@[simp] theorem State.setR16_eiPending (s : State) (r : R16) (v : Word) : (s.setR16 r v).eiPending = s.eiPending := by cases r <;> rfl
@[simp] theorem State.setR16_apply (s : State) (r : R16) (v : Word) : (s.setR16 r v).apply = s.apply := by cases r <;> rfl
@[simp] theorem State.setR16_run (s : State) (r : R16) (v : Word) : (s.setR16 r v).run = s.run := by cases r <;> rfl
@[simp] theorem State.setR16_mode (s : State) (r : R16) (v : Word) : (s.setR16 r v).mode = s.mode := by cases r <;> rfl
@[simp] theorem State.setR16_err (s : State) (r : R16) (v : Word) : (s.setR16 r v).err = s.err := by cases r <;> rfl
@[simp] theorem State.setR16_mem (s : State) (r : R16) (v : Word) : (s.setR16 r v).mem = s.mem := by cases r <;> rfl
@[simp] theorem State.setR16_params (s : State) (r : R16) (v : Word) : (s.setR16 r v).params = s.params := by cases r <;> rfl
@[simp] theorem State.setR16_inputs (s : State) (r : R16) (v : Word) : (s.setR16 r v).inputs = s.inputs := by cases r <;> rfl
@[simp] theorem State.setR16_result (s : State) (r : R16) (v : Word) : (s.setR16 r v).result = s.result := by cases r <;> rfl

/-! ## `setStk` -/

@[simp] theorem State.setStk_sp (s : State) (r : R16Stk) (v : Word) : (s.setStk r v).sp = s.sp := by cases r <;> simp [State.setStk, State.setR16]
@[simp] theorem State.setStk_pc (s : State) (r : R16Stk) (v : Word) : (s.setStk r v).pc = s.pc := by cases r <;> simp [State.setStk, State.setR16]
@[simp] theorem State.setStk_ime (s : State) (r : R16Stk) (v : Word) : (s.setStk r v).ime = s.ime := by cases r <;> simp [State.setStk, State.setR16]
@[simp] theorem State.setStk_eiPending (s : State) (r : R16Stk) (v : Word) : (s.setStk r v).eiPending = s.eiPending := by cases r <;> simp [State.setStk, State.setR16]
@[simp] theorem State.setStk_apply (s : State) (r : R16Stk) (v : Word) : (s.setStk r v).apply = s.apply := by cases r <;> simp [State.setStk, State.setR16]
@[simp] theorem State.setStk_run (s : State) (r : R16Stk) (v : Word) : (s.setStk r v).run = s.run := by cases r <;> simp [State.setStk, State.setR16]
@[simp] theorem State.setStk_mode (s : State) (r : R16Stk) (v : Word) : (s.setStk r v).mode = s.mode := by cases r <;> simp [State.setStk, State.setR16]
@[simp] theorem State.setStk_err (s : State) (r : R16Stk) (v : Word) : (s.setStk r v).err = s.err := by cases r <;> simp [State.setStk, State.setR16]
@[simp] theorem State.setStk_mem (s : State) (r : R16Stk) (v : Word) : (s.setStk r v).mem = s.mem := by cases r <;> simp [State.setStk, State.setR16]
@[simp] theorem State.setStk_params (s : State) (r : R16Stk) (v : Word) : (s.setStk r v).params = s.params := by cases r <;> simp [State.setStk, State.setR16]
@[simp] theorem State.setStk_inputs (s : State) (r : R16Stk) (v : Word) : (s.setStk r v).inputs = s.inputs := by cases r <;> simp [State.setStk, State.setR16]
@[simp] theorem State.setStk_result (s : State) (r : R16Stk) (v : Word) : (s.setStk r v).result = s.result := by cases r <;> simp [State.setStk, State.setR16]

/-! ## `putOpnd` -/

@[simp] theorem State.putOpnd_f (s : State) (o : Opnd8) (v : Byte) : (s.putOpnd o v).f = s.f := by cases o <;> simp [State.putOpnd]
@[simp] theorem State.putOpnd_sp (s : State) (o : Opnd8) (v : Byte) : (s.putOpnd o v).sp = s.sp := by cases o <;> simp [State.putOpnd]
@[simp] theorem State.putOpnd_pc (s : State) (o : Opnd8) (v : Byte) : (s.putOpnd o v).pc = s.pc := by cases o <;> simp [State.putOpnd]
@[simp] theorem State.putOpnd_ime (s : State) (o : Opnd8) (v : Byte) : (s.putOpnd o v).ime = s.ime := by cases o <;> simp [State.putOpnd]
@[simp] theorem State.putOpnd_eiPending (s : State) (o : Opnd8) (v : Byte) : (s.putOpnd o v).eiPending = s.eiPending := by cases o <;> simp [State.putOpnd]
@[simp] theorem State.putOpnd_apply (s : State) (o : Opnd8) (v : Byte) : (s.putOpnd o v).apply = s.apply := by cases o <;> simp [State.putOpnd]
@[simp] theorem State.putOpnd_run (s : State) (o : Opnd8) (v : Byte) : (s.putOpnd o v).run = s.run := by cases o <;> simp [State.putOpnd]
@[simp] theorem State.putOpnd_mode (s : State) (o : Opnd8) (v : Byte) : (s.putOpnd o v).mode = s.mode := by cases o <;> simp [State.putOpnd]
@[simp] theorem State.putOpnd_err (s : State) (o : Opnd8) (v : Byte) : (s.putOpnd o v).err = s.err := by cases o <;> simp [State.putOpnd]
@[simp] theorem State.putOpnd_params (s : State) (o : Opnd8) (v : Byte) : (s.putOpnd o v).params = s.params := by cases o <;> simp [State.putOpnd]
@[simp] theorem State.putOpnd_inputs (s : State) (o : Opnd8) (v : Byte) : (s.putOpnd o v).inputs = s.inputs := by cases o <;> simp [State.putOpnd]
@[simp] theorem State.putOpnd_result (s : State) (o : Opnd8) (v : Byte) : (s.putOpnd o v).result = s.result := by cases o <;> simp [State.putOpnd]

/-! ## `memAddrAfter` -/

@[simp] theorem State.memAddrAfter_a (s : State) (m : R16Mem) : (s.memAddrAfter m).a = s.a := by cases m <;> simp [State.memAddrAfter]
@[simp] theorem State.memAddrAfter_f (s : State) (m : R16Mem) : (s.memAddrAfter m).f = s.f := by cases m <;> simp [State.memAddrAfter]
@[simp] theorem State.memAddrAfter_b (s : State) (m : R16Mem) : (s.memAddrAfter m).b = s.b := by cases m <;> simp [State.memAddrAfter]
@[simp] theorem State.memAddrAfter_c (s : State) (m : R16Mem) : (s.memAddrAfter m).c = s.c := by cases m <;> simp [State.memAddrAfter]
@[simp] theorem State.memAddrAfter_d (s : State) (m : R16Mem) : (s.memAddrAfter m).d = s.d := by cases m <;> simp [State.memAddrAfter]
@[simp] theorem State.memAddrAfter_e (s : State) (m : R16Mem) : (s.memAddrAfter m).e = s.e := by cases m <;> simp [State.memAddrAfter]
@[simp] theorem State.memAddrAfter_sp (s : State) (m : R16Mem) : (s.memAddrAfter m).sp = s.sp := by cases m <;> simp [State.memAddrAfter]
@[simp] theorem State.memAddrAfter_pc (s : State) (m : R16Mem) : (s.memAddrAfter m).pc = s.pc := by cases m <;> simp [State.memAddrAfter]
@[simp] theorem State.memAddrAfter_ime (s : State) (m : R16Mem) : (s.memAddrAfter m).ime = s.ime := by cases m <;> simp [State.memAddrAfter]
@[simp] theorem State.memAddrAfter_eiPending (s : State) (m : R16Mem) : (s.memAddrAfter m).eiPending = s.eiPending := by cases m <;> simp [State.memAddrAfter]
@[simp] theorem State.memAddrAfter_apply (s : State) (m : R16Mem) : (s.memAddrAfter m).apply = s.apply := by cases m <;> simp [State.memAddrAfter]
@[simp] theorem State.memAddrAfter_run (s : State) (m : R16Mem) : (s.memAddrAfter m).run = s.run := by cases m <;> simp [State.memAddrAfter]
@[simp] theorem State.memAddrAfter_mode (s : State) (m : R16Mem) : (s.memAddrAfter m).mode = s.mode := by cases m <;> simp [State.memAddrAfter]
@[simp] theorem State.memAddrAfter_err (s : State) (m : R16Mem) : (s.memAddrAfter m).err = s.err := by cases m <;> simp [State.memAddrAfter]
@[simp] theorem State.memAddrAfter_mem (s : State) (m : R16Mem) : (s.memAddrAfter m).mem = s.mem := by cases m <;> simp [State.memAddrAfter]
@[simp] theorem State.memAddrAfter_params (s : State) (m : R16Mem) : (s.memAddrAfter m).params = s.params := by cases m <;> simp [State.memAddrAfter]
@[simp] theorem State.memAddrAfter_inputs (s : State) (m : R16Mem) : (s.memAddrAfter m).inputs = s.inputs := by cases m <;> simp [State.memAddrAfter]
@[simp] theorem State.memAddrAfter_result (s : State) (m : R16Mem) : (s.memAddrAfter m).result = s.result := by cases m <;> simp [State.memAddrAfter]

/-! ## `push16` -/

@[simp] theorem State.push16_a (s : State) (v : Word) : (s.push16 v).a = s.a := by simp [State.push16]
@[simp] theorem State.push16_f (s : State) (v : Word) : (s.push16 v).f = s.f := by simp [State.push16]
@[simp] theorem State.push16_b (s : State) (v : Word) : (s.push16 v).b = s.b := by simp [State.push16]
@[simp] theorem State.push16_c (s : State) (v : Word) : (s.push16 v).c = s.c := by simp [State.push16]
@[simp] theorem State.push16_d (s : State) (v : Word) : (s.push16 v).d = s.d := by simp [State.push16]
@[simp] theorem State.push16_e (s : State) (v : Word) : (s.push16 v).e = s.e := by simp [State.push16]
@[simp] theorem State.push16_h (s : State) (v : Word) : (s.push16 v).h = s.h := by simp [State.push16]
@[simp] theorem State.push16_l (s : State) (v : Word) : (s.push16 v).l = s.l := by simp [State.push16]
@[simp] theorem State.push16_sp (s : State) (v : Word) : (s.push16 v).sp = s.sp - 1 - 1 := by simp [State.push16]
@[simp] theorem State.push16_pc (s : State) (v : Word) : (s.push16 v).pc = s.pc := by simp [State.push16]
@[simp] theorem State.push16_ime (s : State) (v : Word) : (s.push16 v).ime = s.ime := by simp [State.push16]
@[simp] theorem State.push16_eiPending (s : State) (v : Word) : (s.push16 v).eiPending = s.eiPending := by simp [State.push16]
@[simp] theorem State.push16_apply (s : State) (v : Word) : (s.push16 v).apply = s.apply := by simp [State.push16]
@[simp] theorem State.push16_run (s : State) (v : Word) : (s.push16 v).run = s.run := by simp [State.push16]
@[simp] theorem State.push16_mode (s : State) (v : Word) : (s.push16 v).mode = s.mode := by simp [State.push16]
@[simp] theorem State.push16_err (s : State) (v : Word) : (s.push16 v).err = s.err := by simp [State.push16]
@[simp] theorem State.push16_params (s : State) (v : Word) : (s.push16 v).params = s.params := by simp [State.push16]
@[simp] theorem State.push16_inputs (s : State) (v : Word) : (s.push16 v).inputs = s.inputs := by simp [State.push16]
@[simp] theorem State.push16_result (s : State) (v : Word) : (s.push16 v).result = s.result := by simp [State.push16]

/-! ## `jumpRelative` -/

@[simp] theorem State.jumpRelative_a (s : State) (d : Byte) : (s.jumpRelative d).a = s.a := by simp [State.jumpRelative]
@[simp] theorem State.jumpRelative_f (s : State) (d : Byte) : (s.jumpRelative d).f = s.f := by simp [State.jumpRelative]
@[simp] theorem State.jumpRelative_b (s : State) (d : Byte) : (s.jumpRelative d).b = s.b := by simp [State.jumpRelative]
@[simp] theorem State.jumpRelative_c (s : State) (d : Byte) : (s.jumpRelative d).c = s.c := by simp [State.jumpRelative]
@[simp] theorem State.jumpRelative_d (s : State) (d : Byte) : (s.jumpRelative d).d = s.d := by simp [State.jumpRelative]
@[simp] theorem State.jumpRelative_e (s : State) (d : Byte) : (s.jumpRelative d).e = s.e := by simp [State.jumpRelative]
@[simp] theorem State.jumpRelative_h (s : State) (d : Byte) : (s.jumpRelative d).h = s.h := by simp [State.jumpRelative]
@[simp] theorem State.jumpRelative_l (s : State) (d : Byte) : (s.jumpRelative d).l = s.l := by simp [State.jumpRelative]
@[simp] theorem State.jumpRelative_sp (s : State) (d : Byte) : (s.jumpRelative d).sp = s.sp := by simp [State.jumpRelative]
@[simp] theorem State.jumpRelative_pc (s : State) (d : Byte) : (s.jumpRelative d).pc = s.pc + sext16 d := by simp [State.jumpRelative]
@[simp] theorem State.jumpRelative_ime (s : State) (d : Byte) : (s.jumpRelative d).ime = s.ime := by simp [State.jumpRelative]
@[simp] theorem State.jumpRelative_eiPending (s : State) (d : Byte) : (s.jumpRelative d).eiPending = s.eiPending := by simp [State.jumpRelative]
@[simp] theorem State.jumpRelative_apply (s : State) (d : Byte) : (s.jumpRelative d).apply = s.apply := by simp [State.jumpRelative]
@[simp] theorem State.jumpRelative_run (s : State) (d : Byte) : (s.jumpRelative d).run = s.run := by simp [State.jumpRelative]
@[simp] theorem State.jumpRelative_mode (s : State) (d : Byte) : (s.jumpRelative d).mode = s.mode := by simp [State.jumpRelative]
@[simp] theorem State.jumpRelative_err (s : State) (d : Byte) : (s.jumpRelative d).err = s.err := by simp [State.jumpRelative]
@[simp] theorem State.jumpRelative_mem (s : State) (d : Byte) : (s.jumpRelative d).mem = s.mem := by simp [State.jumpRelative]
@[simp] theorem State.jumpRelative_params (s : State) (d : Byte) : (s.jumpRelative d).params = s.params := by simp [State.jumpRelative]
@[simp] theorem State.jumpRelative_inputs (s : State) (d : Byte) : (s.jumpRelative d).inputs = s.inputs := by simp [State.jumpRelative]
@[simp] theorem State.jumpRelative_result (s : State) (d : Byte) : (s.jumpRelative d).result = s.result := by simp [State.jumpRelative]

/-! ## `callTo` -/

@[simp] theorem State.callTo_a (s : State) (x : Word) : (s.callTo x).a = s.a := by simp [State.callTo]
@[simp] theorem State.callTo_f (s : State) (x : Word) : (s.callTo x).f = s.f := by simp [State.callTo]
@[simp] theorem State.callTo_b (s : State) (x : Word) : (s.callTo x).b = s.b := by simp [State.callTo]
@[simp] theorem State.callTo_c (s : State) (x : Word) : (s.callTo x).c = s.c := by simp [State.callTo]
@[simp] theorem State.callTo_d (s : State) (x : Word) : (s.callTo x).d = s.d := by simp [State.callTo]
@[simp] theorem State.callTo_e (s : State) (x : Word) : (s.callTo x).e = s.e := by simp [State.callTo]
@[simp] theorem State.callTo_h (s : State) (x : Word) : (s.callTo x).h = s.h := by simp [State.callTo]
@[simp] theorem State.callTo_l (s : State) (x : Word) : (s.callTo x).l = s.l := by simp [State.callTo]
@[simp] theorem State.callTo_sp (s : State) (x : Word) : (s.callTo x).sp = s.sp - 1 - 1 := by simp [State.callTo]
@[simp] theorem State.callTo_pc (s : State) (x : Word) : (s.callTo x).pc = x := by simp [State.callTo]
@[simp] theorem State.callTo_ime (s : State) (x : Word) : (s.callTo x).ime = s.ime := by simp [State.callTo]
@[simp] theorem State.callTo_eiPending (s : State) (x : Word) : (s.callTo x).eiPending = s.eiPending := by simp [State.callTo]
@[simp] theorem State.callTo_apply (s : State) (x : Word) : (s.callTo x).apply = s.apply := by simp [State.callTo]
@[simp] theorem State.callTo_run (s : State) (x : Word) : (s.callTo x).run = s.run := by simp [State.callTo]
@[simp] theorem State.callTo_mode (s : State) (x : Word) : (s.callTo x).mode = s.mode := by simp [State.callTo]
@[simp] theorem State.callTo_err (s : State) (x : Word) : (s.callTo x).err = s.err := by simp [State.callTo]
@[simp] theorem State.callTo_params (s : State) (x : Word) : (s.callTo x).params = s.params := by simp [State.callTo]
@[simp] theorem State.callTo_inputs (s : State) (x : Word) : (s.callTo x).inputs = s.inputs := by simp [State.callTo]
@[simp] theorem State.callTo_result (s : State) (x : Word) : (s.callTo x).result = s.result := by simp [State.callTo]

/-! ## `returnFrom` -/

@[simp] theorem State.returnFrom_a (s : State) : (s.returnFrom).a = s.a := by simp [State.returnFrom, State.pop16]
@[simp] theorem State.returnFrom_f (s : State) : (s.returnFrom).f = s.f := by simp [State.returnFrom, State.pop16]
@[simp] theorem State.returnFrom_b (s : State) : (s.returnFrom).b = s.b := by simp [State.returnFrom, State.pop16]
@[simp] theorem State.returnFrom_c (s : State) : (s.returnFrom).c = s.c := by simp [State.returnFrom, State.pop16]
@[simp] theorem State.returnFrom_d (s : State) : (s.returnFrom).d = s.d := by simp [State.returnFrom, State.pop16]
@[simp] theorem State.returnFrom_e (s : State) : (s.returnFrom).e = s.e := by simp [State.returnFrom, State.pop16]
@[simp] theorem State.returnFrom_h (s : State) : (s.returnFrom).h = s.h := by simp [State.returnFrom, State.pop16]
@[simp] theorem State.returnFrom_l (s : State) : (s.returnFrom).l = s.l := by simp [State.returnFrom, State.pop16]
@[simp] theorem State.returnFrom_sp (s : State) : (s.returnFrom).sp = s.sp + 1 + 1 := by simp [State.returnFrom, State.pop16]
@[simp] theorem State.returnFrom_pc (s : State) : (s.returnFrom).pc = s.pop16.1 := by simp [State.returnFrom, State.pop16]
@[simp] theorem State.returnFrom_ime (s : State) : (s.returnFrom).ime = s.ime := by simp [State.returnFrom, State.pop16]
@[simp] theorem State.returnFrom_eiPending (s : State) : (s.returnFrom).eiPending = s.eiPending := by simp [State.returnFrom, State.pop16]
@[simp] theorem State.returnFrom_apply (s : State) : (s.returnFrom).apply = s.apply := by simp [State.returnFrom, State.pop16]
@[simp] theorem State.returnFrom_run (s : State) : (s.returnFrom).run = s.run := by simp [State.returnFrom, State.pop16]
@[simp] theorem State.returnFrom_mode (s : State) : (s.returnFrom).mode = s.mode := by simp [State.returnFrom, State.pop16]
@[simp] theorem State.returnFrom_err (s : State) : (s.returnFrom).err = s.err := by simp [State.returnFrom, State.pop16]
@[simp] theorem State.returnFrom_mem (s : State) : (s.returnFrom).mem = s.mem := by simp [State.returnFrom, State.pop16]
@[simp] theorem State.returnFrom_params (s : State) : (s.returnFrom).params = s.params := by simp [State.returnFrom, State.pop16]
@[simp] theorem State.returnFrom_inputs (s : State) : (s.returnFrom).inputs = s.inputs := by simp [State.returnFrom, State.pop16]
@[simp] theorem State.returnFrom_result (s : State) : (s.returnFrom).result = s.result := by simp [State.returnFrom, State.pop16]

/-! ## `chargeExtended` -/

@[simp] theorem State.chargeExtended_a (s : State) (n : Nat) : (State.chargeExtended n s).a = s.a := by unfold State.chargeExtended; split <;> rfl
@[simp] theorem State.chargeExtended_f (s : State) (n : Nat) : (State.chargeExtended n s).f = s.f := by unfold State.chargeExtended; split <;> rfl
@[simp] theorem State.chargeExtended_b (s : State) (n : Nat) : (State.chargeExtended n s).b = s.b := by unfold State.chargeExtended; split <;> rfl
@[simp] theorem State.chargeExtended_c (s : State) (n : Nat) : (State.chargeExtended n s).c = s.c := by unfold State.chargeExtended; split <;> rfl
@[simp] theorem State.chargeExtended_d (s : State) (n : Nat) : (State.chargeExtended n s).d = s.d := by unfold State.chargeExtended; split <;> rfl
@[simp] theorem State.chargeExtended_e (s : State) (n : Nat) : (State.chargeExtended n s).e = s.e := by unfold State.chargeExtended; split <;> rfl
@[simp] theorem State.chargeExtended_h (s : State) (n : Nat) : (State.chargeExtended n s).h = s.h := by unfold State.chargeExtended; split <;> rfl
@[simp] theorem State.chargeExtended_l (s : State) (n : Nat) : (State.chargeExtended n s).l = s.l := by unfold State.chargeExtended; split <;> rfl
@[simp] theorem State.chargeExtended_sp (s : State) (n : Nat) : (State.chargeExtended n s).sp = s.sp := by unfold State.chargeExtended; split <;> rfl
@[simp] theorem State.chargeExtended_pc (s : State) (n : Nat) : (State.chargeExtended n s).pc = s.pc := by unfold State.chargeExtended; split <;> rfl
@[simp] theorem State.chargeExtended_ime (s : State) (n : Nat) : (State.chargeExtended n s).ime = s.ime := by unfold State.chargeExtended; split <;> rfl
@[simp] theorem State.chargeExtended_eiPending (s : State) (n : Nat) : (State.chargeExtended n s).eiPending = s.eiPending := by unfold State.chargeExtended; split <;> rfl
@[simp] theorem State.chargeExtended_apply (s : State) (n : Nat) : (State.chargeExtended n s).apply = s.apply := by unfold State.chargeExtended; split <;> rfl
@[simp] theorem State.chargeExtended_run (s : State) (n : Nat) : (State.chargeExtended n s).run = s.run := by unfold State.chargeExtended; split <;> rfl
@[simp] theorem State.chargeExtended_mode (s : State) (n : Nat) : (State.chargeExtended n s).mode = s.mode := by unfold State.chargeExtended; split <;> rfl
@[simp] theorem State.chargeExtended_err (s : State) (n : Nat) : (State.chargeExtended n s).err = s.err := by unfold State.chargeExtended; split <;> rfl
@[simp] theorem State.chargeExtended_mem (s : State) (n : Nat) : (State.chargeExtended n s).mem = s.mem := by unfold State.chargeExtended; split <;> rfl
@[simp] theorem State.chargeExtended_params (s : State) (n : Nat) : (State.chargeExtended n s).params = s.params := by unfold State.chargeExtended; split <;> rfl
@[simp] theorem State.chargeExtended_inputs (s : State) (n : Nat) : (State.chargeExtended n s).inputs = s.inputs := by unfold State.chargeExtended; split <;> rfl

/-! ## `raiseIllegal` -/

@[simp] theorem State.raiseIllegal_a (s : State) (op : Byte) : (s.raiseIllegal op).a = s.a := rfl
@[simp] theorem State.raiseIllegal_f (s : State) (op : Byte) : (s.raiseIllegal op).f = s.f := rfl
@[simp] theorem State.raiseIllegal_b (s : State) (op : Byte) : (s.raiseIllegal op).b = s.b := rfl
@[simp] theorem State.raiseIllegal_c (s : State) (op : Byte) : (s.raiseIllegal op).c = s.c := rfl
@[simp] theorem State.raiseIllegal_d (s : State) (op : Byte) : (s.raiseIllegal op).d = s.d := rfl
@[simp] theorem State.raiseIllegal_e (s : State) (op : Byte) : (s.raiseIllegal op).e = s.e := rfl
@[simp] theorem State.raiseIllegal_h (s : State) (op : Byte) : (s.raiseIllegal op).h = s.h := rfl
@[simp] theorem State.raiseIllegal_l (s : State) (op : Byte) : (s.raiseIllegal op).l = s.l := rfl
@[simp] theorem State.raiseIllegal_sp (s : State) (op : Byte) : (s.raiseIllegal op).sp = s.sp := rfl
@[simp] theorem State.raiseIllegal_pc (s : State) (op : Byte) : (s.raiseIllegal op).pc = s.pc := rfl
@[simp] theorem State.raiseIllegal_ime (s : State) (op : Byte) : (s.raiseIllegal op).ime = s.ime := rfl
@[simp] theorem State.raiseIllegal_eiPending (s : State) (op : Byte) : (s.raiseIllegal op).eiPending = s.eiPending := rfl
@[simp] theorem State.raiseIllegal_apply (s : State) (op : Byte) : (s.raiseIllegal op).apply = false := rfl
@[simp] theorem State.raiseIllegal_run (s : State) (op : Byte) : (s.raiseIllegal op).run = .haltedError := rfl
@[simp] theorem State.raiseIllegal_mode (s : State) (op : Byte) : (s.raiseIllegal op).mode = s.mode := rfl
@[simp] theorem State.raiseIllegal_err (s : State) (op : Byte) : (s.raiseIllegal op).err = some ⟨op, s.pc - 1⟩ := rfl
@[simp] theorem State.raiseIllegal_mem (s : State) (op : Byte) : (s.raiseIllegal op).mem = s.mem := rfl
@[simp] theorem State.raiseIllegal_params (s : State) (op : Byte) : (s.raiseIllegal op).params = s.params := rfl
@[simp] theorem State.raiseIllegal_inputs (s : State) (op : Byte) : (s.raiseIllegal op).inputs = s.inputs := rfl
@[simp] theorem State.raiseIllegal_result (s : State) (op : Byte) : (s.raiseIllegal op).result = some (.error ⟨op, s.pc - 1⟩) := rfl

/-! ## `beginInstr` -/

@[simp] theorem State.beginInstr_a (s : State) : (s.beginInstr).a = s.a := rfl
@[simp] theorem State.beginInstr_f (s : State) : (s.beginInstr).f = s.f := rfl
@[simp] theorem State.beginInstr_b (s : State) : (s.beginInstr).b = s.b := rfl
@[simp] theorem State.beginInstr_c (s : State) : (s.beginInstr).c = s.c := rfl
@[simp] theorem State.beginInstr_d (s : State) : (s.beginInstr).d = s.d := rfl
@[simp] theorem State.beginInstr_e (s : State) : (s.beginInstr).e = s.e := rfl
@[simp] theorem State.beginInstr_h (s : State) : (s.beginInstr).h = s.h := rfl
@[simp] theorem State.beginInstr_l (s : State) : (s.beginInstr).l = s.l := rfl
@[simp] theorem State.beginInstr_sp (s : State) : (s.beginInstr).sp = s.sp := rfl
@[simp] theorem State.beginInstr_pc (s : State) : (s.beginInstr).pc = s.pc := rfl
@[simp] theorem State.beginInstr_ime (s : State) : (s.beginInstr).ime = s.ime := rfl
@[simp] theorem State.beginInstr_eiPending (s : State) : (s.beginInstr).eiPending = false := rfl
@[simp] theorem State.beginInstr_apply (s : State) : (s.beginInstr).apply = s.eiPending := rfl
@[simp] theorem State.beginInstr_run (s : State) : (s.beginInstr).run = s.run := rfl
@[simp] theorem State.beginInstr_mode (s : State) : (s.beginInstr).mode = s.mode := rfl
@[simp] theorem State.beginInstr_err (s : State) : (s.beginInstr).err = s.err := rfl
@[simp] theorem State.beginInstr_mem (s : State) : (s.beginInstr).mem = s.mem := rfl
@[simp] theorem State.beginInstr_params (s : State) : (s.beginInstr).params = s.params := rfl
@[simp] theorem State.beginInstr_inputs (s : State) : (s.beginInstr).inputs = s.inputs := rfl
@[simp] theorem State.beginInstr_result (s : State) : (s.beginInstr).result = s.result := rfl

/-! ## `endInstr` -/

@[simp] theorem State.endInstr_a (s : State) : (s.endInstr).a = s.a := rfl
@[simp] theorem State.endInstr_f (s : State) : (s.endInstr).f = s.f := rfl
@[simp] theorem State.endInstr_b (s : State) : (s.endInstr).b = s.b := rfl
@[simp] theorem State.endInstr_c (s : State) : (s.endInstr).c = s.c := rfl
@[simp] theorem State.endInstr_d (s : State) : (s.endInstr).d = s.d := rfl
@[simp] theorem State.endInstr_e (s : State) : (s.endInstr).e = s.e := rfl
@[simp] theorem State.endInstr_h (s : State) : (s.endInstr).h = s.h := rfl
@[simp] theorem State.endInstr_l (s : State) : (s.endInstr).l = s.l := rfl
@[simp] theorem State.endInstr_sp (s : State) : (s.endInstr).sp = s.sp := rfl
@[simp] theorem State.endInstr_pc (s : State) : (s.endInstr).pc = s.pc := rfl
@[simp] theorem State.endInstr_ime (s : State) : (s.endInstr).ime = (s.ime || s.apply) := rfl
@[simp] theorem State.endInstr_eiPending (s : State) : (s.endInstr).eiPending = s.eiPending := rfl
@[simp] theorem State.endInstr_apply (s : State) : (s.endInstr).apply = false := rfl
@[simp] theorem State.endInstr_run (s : State) : (s.endInstr).run = s.run := rfl
@[simp] theorem State.endInstr_mode (s : State) : (s.endInstr).mode = s.mode := rfl
@[simp] theorem State.endInstr_err (s : State) : (s.endInstr).err = s.err := rfl
@[simp] theorem State.endInstr_mem (s : State) : (s.endInstr).mem = s.mem := rfl
@[simp] theorem State.endInstr_params (s : State) : (s.endInstr).params = s.params := rfl
@[simp] theorem State.endInstr_inputs (s : State) : (s.endInstr).inputs = s.inputs := rfl
@[simp] theorem State.endInstr_result (s : State) : (s.endInstr).result = s.result := rfl

/-! ## What reads of memory, flags and HL see after an update that leaves them alone -/

@[simp] theorem State.setSp_memRead (s : State) (v : Word) (y : Word) : (s.setSp v).memRead y = s.memRead y := by simp [State.memRead]
@[simp] theorem State.setSp_zf (s : State) (v : Word) : (s.setSp v).zf = s.zf := by simp [State.zf]
@[simp] theorem State.setSp_nf (s : State) (v : Word) : (s.setSp v).nf = s.nf := by simp [State.nf]
@[simp] theorem State.setSp_hf (s : State) (v : Word) : (s.setSp v).hf = s.hf := by simp [State.hf]
@[simp] theorem State.setSp_cf (s : State) (v : Word) : (s.setSp v).cf = s.cf := by simp [State.cf]
@[simp] theorem State.setSp_hl (s : State) (v : Word) : (s.setSp v).hl = s.hl := by simp [State.hl]
@[simp] theorem State.setPc_memRead (s : State) (v : Word) (y : Word) : (s.setPc v).memRead y = s.memRead y := by simp [State.memRead]
@[simp] theorem State.setPc_zf (s : State) (v : Word) : (s.setPc v).zf = s.zf := by simp [State.zf]
@[simp] theorem State.setPc_nf (s : State) (v : Word) : (s.setPc v).nf = s.nf := by simp [State.nf]
@[simp] theorem State.setPc_hf (s : State) (v : Word) : (s.setPc v).hf = s.hf := by simp [State.hf]
@[simp] theorem State.setPc_cf (s : State) (v : Word) : (s.setPc v).cf = s.cf := by simp [State.cf]
@[simp] theorem State.setPc_hl (s : State) (v : Word) : (s.setPc v).hl = s.hl := by simp [State.hl]
@[simp] theorem State.charge_memRead (s : State) (n : Nat) (y : Word) : (State.charge n s).memRead y = s.memRead y := by simp [State.memRead]
@[simp] theorem State.charge_zf (s : State) (n : Nat) : (State.charge n s).zf = s.zf := by simp [State.zf]
@[simp] theorem State.charge_nf (s : State) (n : Nat) : (State.charge n s).nf = s.nf := by simp [State.nf]
@[simp] theorem State.charge_hf (s : State) (n : Nat) : (State.charge n s).hf = s.hf := by simp [State.hf]
@[simp] theorem State.charge_cf (s : State) (n : Nat) : (State.charge n s).cf = s.cf := by simp [State.cf]
@[simp] theorem State.charge_hl (s : State) (n : Nat) : (State.charge n s).hl = s.hl := by simp [State.hl]
@[simp] theorem State.memWrite_zf (s : State) (x : Word) (v : Byte) : (s.memWrite x v).zf = s.zf := by simp [State.zf]
@[simp] theorem State.memWrite_nf (s : State) (x : Word) (v : Byte) : (s.memWrite x v).nf = s.nf := by simp [State.nf]
@[simp] theorem State.memWrite_hf (s : State) (x : Word) (v : Byte) : (s.memWrite x v).hf = s.hf := by simp [State.hf]
@[simp] theorem State.memWrite_cf (s : State) (x : Word) (v : Byte) : (s.memWrite x v).cf = s.cf := by simp [State.cf]
@[simp] theorem State.memWrite_hl (s : State) (x : Word) (v : Byte) : (s.memWrite x v).hl = s.hl := by simp [State.hl]
@[simp] theorem State.memWrite16_zf (s : State) (x v : Word) : (s.memWrite16 x v).zf = s.zf := by simp [State.zf]
@[simp] theorem State.memWrite16_nf (s : State) (x v : Word) : (s.memWrite16 x v).nf = s.nf := by simp [State.nf]
@[simp] theorem State.memWrite16_hf (s : State) (x v : Word) : (s.memWrite16 x v).hf = s.hf := by simp [State.hf]
@[simp] theorem State.memWrite16_cf (s : State) (x v : Word) : (s.memWrite16 x v).cf = s.cf := by simp [State.cf]
@[simp] theorem State.memWrite16_hl (s : State) (x v : Word) : (s.memWrite16 x v).hl = s.hl := by simp [State.hl]
@[simp] theorem State.setF_memRead (s : State) (v : Byte) (y : Word) : (s.setF v).memRead y = s.memRead y := by simp [State.memRead]
@[simp] theorem State.setF_hl (s : State) (v : Byte) : (s.setF v).hl = s.hl := by simp [State.hl]
@[simp] theorem State.setHl_memRead (s : State) (v : Word) (y : Word) : (s.setHl v).memRead y = s.memRead y := by simp [State.memRead]
@[simp] theorem State.setHl_zf (s : State) (v : Word) : (s.setHl v).zf = s.zf := by simp [State.zf]
@[simp] theorem State.setHl_nf (s : State) (v : Word) : (s.setHl v).nf = s.nf := by simp [State.nf]
@[simp] theorem State.setHl_hf (s : State) (v : Word) : (s.setHl v).hf = s.hf := by simp [State.hf]
@[simp] theorem State.setHl_cf (s : State) (v : Word) : (s.setHl v).cf = s.cf := by simp [State.cf]
@[simp] theorem State.flags_memRead (s : State) (z n h c : Option Bool) (y : Word) : (s.flags z n h c).memRead y = s.memRead y := by simp [State.memRead]
@[simp] theorem State.flags_hl (s : State) (z n h c : Option Bool) : (s.flags z n h c).hl = s.hl := by simp [State.hl]
@[simp] theorem State.setR8_memRead (s : State) (r : R8) (v : Byte) (y : Word) : (s.setR8 r v).memRead y = s.memRead y := by simp [State.memRead]
@[simp] theorem State.setR8_zf (s : State) (r : R8) (v : Byte) : (s.setR8 r v).zf = s.zf := by simp [State.zf]
@[simp] theorem State.setR8_nf (s : State) (r : R8) (v : Byte) : (s.setR8 r v).nf = s.nf := by simp [State.nf]
@[simp] theorem State.setR8_hf (s : State) (r : R8) (v : Byte) : (s.setR8 r v).hf = s.hf := by simp [State.hf]
@[simp] theorem State.setR8_cf (s : State) (r : R8) (v : Byte) : (s.setR8 r v).cf = s.cf := by simp [State.cf]
@[simp] theorem State.setR16_memRead (s : State) (r : R16) (v : Word) (y : Word) : (s.setR16 r v).memRead y = s.memRead y := by simp [State.memRead]
@[simp] theorem State.setR16_zf (s : State) (r : R16) (v : Word) : (s.setR16 r v).zf = s.zf := by simp [State.zf]
@[simp] theorem State.setR16_nf (s : State) (r : R16) (v : Word) : (s.setR16 r v).nf = s.nf := by simp [State.nf]
@[simp] theorem State.setR16_hf (s : State) (r : R16) (v : Word) : (s.setR16 r v).hf = s.hf := by simp [State.hf]
@[simp] theorem State.setR16_cf (s : State) (r : R16) (v : Word) : (s.setR16 r v).cf = s.cf := by simp [State.cf]
@[simp] theorem State.setStk_memRead (s : State) (r : R16Stk) (v : Word) (y : Word) : (s.setStk r v).memRead y = s.memRead y := by simp [State.memRead]
@[simp] theorem State.putOpnd_zf (s : State) (o : Opnd8) (v : Byte) : (s.putOpnd o v).zf = s.zf := by simp [State.zf]
@[simp] theorem State.putOpnd_nf (s : State) (o : Opnd8) (v : Byte) : (s.putOpnd o v).nf = s.nf := by simp [State.nf]
@[simp] theorem State.putOpnd_hf (s : State) (o : Opnd8) (v : Byte) : (s.putOpnd o v).hf = s.hf := by simp [State.hf]
@[simp] theorem State.putOpnd_cf (s : State) (o : Opnd8) (v : Byte) : (s.putOpnd o v).cf = s.cf := by simp [State.cf]
@[simp] theorem State.memAddrAfter_memRead (s : State) (m : R16Mem) (y : Word) : (s.memAddrAfter m).memRead y = s.memRead y := by simp [State.memRead]
@[simp] theorem State.memAddrAfter_zf (s : State) (m : R16Mem) : (s.memAddrAfter m).zf = s.zf := by simp [State.zf]
@[simp] theorem State.memAddrAfter_nf (s : State) (m : R16Mem) : (s.memAddrAfter m).nf = s.nf := by simp [State.nf]
@[simp] theorem State.memAddrAfter_hf (s : State) (m : R16Mem) : (s.memAddrAfter m).hf = s.hf := by simp [State.hf]
@[simp] theorem State.memAddrAfter_cf (s : State) (m : R16Mem) : (s.memAddrAfter m).cf = s.cf := by simp [State.cf]
@[simp] theorem State.push16_zf (s : State) (v : Word) : (s.push16 v).zf = s.zf := by simp [State.zf]
@[simp] theorem State.push16_nf (s : State) (v : Word) : (s.push16 v).nf = s.nf := by simp [State.nf]
@[simp] theorem State.push16_hf (s : State) (v : Word) : (s.push16 v).hf = s.hf := by simp [State.hf]
@[simp] theorem State.push16_cf (s : State) (v : Word) : (s.push16 v).cf = s.cf := by simp [State.cf]
@[simp] theorem State.push16_hl (s : State) (v : Word) : (s.push16 v).hl = s.hl := by simp [State.hl]
@[simp] theorem State.jumpRelative_memRead (s : State) (d : Byte) (y : Word) : (s.jumpRelative d).memRead y = s.memRead y := by simp [State.memRead]
@[simp] theorem State.jumpRelative_zf (s : State) (d : Byte) : (s.jumpRelative d).zf = s.zf := by simp [State.zf]
@[simp] theorem State.jumpRelative_nf (s : State) (d : Byte) : (s.jumpRelative d).nf = s.nf := by simp [State.nf]
@[simp] theorem State.jumpRelative_hf (s : State) (d : Byte) : (s.jumpRelative d).hf = s.hf := by simp [State.hf]
@[simp] theorem State.jumpRelative_cf (s : State) (d : Byte) : (s.jumpRelative d).cf = s.cf := by simp [State.cf]
@[simp] theorem State.jumpRelative_hl (s : State) (d : Byte) : (s.jumpRelative d).hl = s.hl := by simp [State.hl]
@[simp] theorem State.callTo_zf (s : State) (x : Word) : (s.callTo x).zf = s.zf := by simp [State.zf]
@[simp] theorem State.callTo_nf (s : State) (x : Word) : (s.callTo x).nf = s.nf := by simp [State.nf]
@[simp] theorem State.callTo_hf (s : State) (x : Word) : (s.callTo x).hf = s.hf := by simp [State.hf]
@[simp] theorem State.callTo_cf (s : State) (x : Word) : (s.callTo x).cf = s.cf := by simp [State.cf]
@[simp] theorem State.callTo_hl (s : State) (x : Word) : (s.callTo x).hl = s.hl := by simp [State.hl]
@[simp] theorem State.returnFrom_memRead (s : State)  (y : Word) : (s.returnFrom).memRead y = s.memRead y := by simp [State.memRead]
@[simp] theorem State.returnFrom_zf (s : State) : (s.returnFrom).zf = s.zf := by simp [State.zf]
@[simp] theorem State.returnFrom_nf (s : State) : (s.returnFrom).nf = s.nf := by simp [State.nf]
@[simp] theorem State.returnFrom_hf (s : State) : (s.returnFrom).hf = s.hf := by simp [State.hf]
@[simp] theorem State.returnFrom_cf (s : State) : (s.returnFrom).cf = s.cf := by simp [State.cf]
@[simp] theorem State.returnFrom_hl (s : State) : (s.returnFrom).hl = s.hl := by simp [State.hl]
@[simp] theorem State.chargeExtended_memRead (s : State) (n : Nat) (y : Word) : (State.chargeExtended n s).memRead y = s.memRead y := by simp [State.memRead]
@[simp] theorem State.chargeExtended_zf (s : State) (n : Nat) : (State.chargeExtended n s).zf = s.zf := by simp [State.zf]
@[simp] theorem State.chargeExtended_nf (s : State) (n : Nat) : (State.chargeExtended n s).nf = s.nf := by simp [State.nf]
@[simp] theorem State.chargeExtended_hf (s : State) (n : Nat) : (State.chargeExtended n s).hf = s.hf := by simp [State.hf]
@[simp] theorem State.chargeExtended_cf (s : State) (n : Nat) : (State.chargeExtended n s).cf = s.cf := by simp [State.cf]
@[simp] theorem State.chargeExtended_hl (s : State) (n : Nat) : (State.chargeExtended n s).hl = s.hl := by simp [State.hl]
@[simp] theorem State.raiseIllegal_memRead (s : State) (op : Byte) (y : Word) : (s.raiseIllegal op).memRead y = s.memRead y := by simp [State.memRead]
@[simp] theorem State.raiseIllegal_zf (s : State) (op : Byte) : (s.raiseIllegal op).zf = s.zf := by simp [State.zf]
@[simp] theorem State.raiseIllegal_nf (s : State) (op : Byte) : (s.raiseIllegal op).nf = s.nf := by simp [State.nf]
@[simp] theorem State.raiseIllegal_hf (s : State) (op : Byte) : (s.raiseIllegal op).hf = s.hf := by simp [State.hf]
@[simp] theorem State.raiseIllegal_cf (s : State) (op : Byte) : (s.raiseIllegal op).cf = s.cf := by simp [State.cf]
@[simp] theorem State.raiseIllegal_hl (s : State) (op : Byte) : (s.raiseIllegal op).hl = s.hl := by simp [State.hl]
@[simp] theorem State.beginInstr_memRead (s : State)  (y : Word) : (s.beginInstr).memRead y = s.memRead y := by simp [State.memRead]
@[simp] theorem State.beginInstr_zf (s : State) : (s.beginInstr).zf = s.zf := by simp [State.zf]
@[simp] theorem State.beginInstr_nf (s : State) : (s.beginInstr).nf = s.nf := by simp [State.nf]
@[simp] theorem State.beginInstr_hf (s : State) : (s.beginInstr).hf = s.hf := by simp [State.hf]
@[simp] theorem State.beginInstr_cf (s : State) : (s.beginInstr).cf = s.cf := by simp [State.cf]
@[simp] theorem State.beginInstr_hl (s : State) : (s.beginInstr).hl = s.hl := by simp [State.hl]
@[simp] theorem State.endInstr_memRead (s : State)  (y : Word) : (s.endInstr).memRead y = s.memRead y := by simp [State.memRead]
@[simp] theorem State.endInstr_zf (s : State) : (s.endInstr).zf = s.zf := by simp [State.zf]
@[simp] theorem State.endInstr_nf (s : State) : (s.endInstr).nf = s.nf := by simp [State.nf]
@[simp] theorem State.endInstr_hf (s : State) : (s.endInstr).hf = s.hf := by simp [State.hf]
@[simp] theorem State.endInstr_cf (s : State) : (s.endInstr).cf = s.cf := by simp [State.cf]
@[simp] theorem State.endInstr_hl (s : State) : (s.endInstr).hl = s.hl := by simp [State.hl]

end Sys2Proof.Machine
end

