-- ==== Sys2Proof/Laws/Ops.lean ====
section
/-! SUPPORT. What the shared operations over memory, the stack and the step can do: the canonical form of memory is kept,
a read after a write, and the small lemmas of fetch and of the parts of a step. -/

namespace Sys2Proof.Machine

/-! ## The canonical form of memory -/

theorem Memory.wfFrom_cons {lo k : Nat} {v : Byte} {m : Memory} :
    Memory.wfFrom lo ((k, v) :: m) = true ↔
      lo ≤ k ∧ k < Config.memorySize ∧ v ≠ Config.unlistedByte ∧ Memory.wfFrom (k + 1) m = true := by
  simp [Memory.wfFrom, and_assoc]

theorem Memory.wfFrom_of_le {lo lo' : Nat} {m : Memory} (h : Memory.wfFrom lo m = true) (hle : lo' ≤ lo) :
    Memory.wfFrom lo' m = true := by
  cases m with
  | nil => rfl
  | cons p m =>
    obtain ⟨k, v⟩ := p
    obtain ⟨h1, h2⟩ := Memory.wfFrom_cons.1 h
    exact Memory.wfFrom_cons.2 ⟨by omega, h2⟩

/-- Below the first address of a canonical memory nothing is listed. -/
theorem Memory.readAt_below {lo a : Nat} {m : Memory} (h : Memory.wfFrom lo m = true) (ha : a < lo) :
    m.readAt a = Config.unlistedByte := by
  cases m with
  | nil => rfl
  | cons p m =>
    obtain ⟨k, v⟩ := p
    have := (Memory.wfFrom_cons.1 h).1
    simp [Memory.readAt, show a < k by omega]

theorem Memory.cons_keeps_wf {lo a : Nat} {v : Byte} {m : Memory} (h : Memory.wfFrom (a + 1) m = true)
    (hlo : lo ≤ a) (ha : a < Config.memorySize) : Memory.wfFrom lo (Memory.cons a v m) = true := by
  unfold Memory.cons
  split
  · exact Memory.wfFrom_of_le h (by omega)
  · exact Memory.wfFrom_cons.2 ⟨hlo, ha, ‹_›, h⟩

/-- Storing a byte keeps the canonical form. -/
theorem Memory.writeAt_keeps_wf {a : Nat} {v : Byte} (ha : a < Config.memorySize) (m : Memory) :
    ∀ lo, Memory.wfFrom lo m = true → lo ≤ a → Memory.wfFrom lo (m.writeAt a v) = true := by
  induction m with
  | nil => intro lo h hlo; exact Memory.cons_keeps_wf rfl hlo ha
  | cons p m ih =>
    obtain ⟨k, w⟩ := p
    intro lo h hlo
    obtain ⟨h1, h2, h3, h4⟩ := Memory.wfFrom_cons.1 h
    simp only [Memory.writeAt]
    split
    · exact Memory.cons_keeps_wf (Memory.wfFrom_cons.2 ⟨by omega, h2, h3, h4⟩) hlo ha
    · split
      · next h5 => subst h5; exact Memory.cons_keeps_wf h4 hlo ha
      · exact Memory.wfFrom_cons.2 ⟨h1, h2, h3, ih _ h4 (by omega)⟩

/-- Filling memory from an image keeps the canonical form. -/
theorem Memory.ofBytes_wf (bytes : List Byte) :
    ∀ k, k + bytes.length ≤ Config.memorySize → Memory.wfFrom k (Memory.ofBytes k bytes) = true := by
  induction bytes with
  | nil => intro k _; rfl
  | cons v rest ih =>
    intro k hk
    rw [List.length_cons] at hk
    exact Memory.cons_keeps_wf (ih (k + 1) (by omega)) (Nat.le_refl k) (by omega)

/-! ## A read after a write -/

theorem Memory.readAt_cons {a b : Nat} {v : Byte} {m : Memory} (h : Memory.wfFrom (a + 1) m = true) :
    (Memory.cons a v m).readAt b = if b = a then v else m.readAt b := by
  unfold Memory.cons
  split
  · next hv =>
    split
    · next hb => subst hb; rw [hv]; exact Memory.readAt_below h (by omega)
    · rfl
  · simp only [Memory.readAt]
    split
    · next hb => rw [if_neg (by omega)]; exact (Memory.readAt_below h (by omega)).symm
    · rfl

/-- A read at the written address gives the byte written; every other address reads as before. -/
theorem Memory.readAt_writeAt {a b : Nat} {v : Byte} (m : Memory) :
    ∀ lo, Memory.wfFrom lo m = true → (m.writeAt a v).readAt b = if b = a then v else m.readAt b := by
  induction m with
  | nil => intro lo h; exact Memory.readAt_cons rfl
  | cons p m ih =>
    obtain ⟨k, w⟩ := p
    intro lo h
    obtain ⟨h1, h2, h3, h4⟩ := Memory.wfFrom_cons.1 h
    simp only [Memory.writeAt]
    split
    · exact Memory.readAt_cons (Memory.wfFrom_cons.2 ⟨by omega, h2, h3, h4⟩)
    · split
      · next h5 =>
        subst h5
        rw [Memory.readAt_cons h4]
        simp only [Memory.readAt]
        repeat' split
        all_goals first | rfl | omega | exact Memory.readAt_below h4 (by omega)
      · simp only [Memory.readAt, ih _ h4]
        repeat' split
        all_goals first | rfl | omega

/-- The state-level form: an address is a word, so it is inside the address space. -/
theorem State.memWrite_keeps_wf {s : State} (x : Word) (v : Byte) (h : s.mem.wf = true) :
    (s.memWrite x v).mem.wf = true :=
  Memory.writeAt_keeps_wf x.isLt s.mem 0 h (Nat.zero_le _)

theorem State.memWrite16_keeps_wf {s : State} (x v : Word) (h : s.mem.wf = true) :
    (s.memWrite16 x v).mem.wf = true :=
  State.memWrite_keeps_wf _ _ (State.memWrite_keeps_wf _ _ h)

theorem State.push16_keeps_wf {s : State} (v : Word) (h : s.mem.wf = true) : (s.push16 v).mem.wf = true :=
  State.memWrite_keeps_wf _ _ (State.memWrite_keeps_wf (s := s.setSp (s.sp - 1)) _ _ h)

theorem State.putOpnd_keeps_wf {s : State} (o : Opnd8) (v : Byte) (h : s.mem.wf = true) :
    (s.putOpnd o v).mem.wf = true := by
  cases o with
  | reg r => simpa [State.putOpnd] using h
  | mHL => exact State.memWrite_keeps_wf _ _ h

theorem State.takeInput_keeps_wf {s : State} (h : s.mem.wf = true) : s.takeInput.mem.wf = true := by
  unfold State.takeInput
  split
  · exact State.memWrite_keeps_wf (s := { s with inputs := s.inputs.tail }) _ _ h
  · exact h

theorem State.takeInterrupt_keeps_wf {s : State} (h : s.mem.wf = true) : s.takeInterrupt.mem.wf = true := by
  simp only [State.takeInterrupt, State.charge_mem, State.setPc_mem]
  apply State.push16_keeps_wf
  exact State.memWrite_keeps_wf (s := { s with run := .running }) _ _ h

theorem create_wf (params : Params) (image : List Byte) (h : image.length = Config.memorySize) :
    (create params image).mem.wf = true :=
  Memory.ofBytes_wf image 0 (by omega)

/-! ## The stack -/

/-- `pop16` reads the word at SP. -/
@[simp] theorem State.pop16_fst (s : State) : s.pop16.1 = s.memRead16 s.sp := rfl

/-- `pop16` moves SP up by two and changes nothing else. -/
@[simp] theorem State.pop16_snd (s : State) : s.pop16.2 = s.setSp (s.sp + 1 + 1) := by
  simp [State.pop16, State.setSp]

/-! ## The step -/

@[simp] theorem Out.mapNext_next (g : State → State) (t : State) : Out.mapNext g (.next t) = .next (g t) := rfl

/-- An input changes at most the list of inputs and, through IF, memory. -/
theorem State.takeInput_eq (s : State) :
    s.takeInput = { s with inputs := s.inputs.tail, mem := s.takeInput.mem } := by
  unfold State.takeInput
  split <;> rfl

/-! The fields after taking an input: only the list of inputs and memory change. -/

@[simp] theorem State.takeInput_a (s : State) : s.takeInput.a = s.a := by rw [State.takeInput_eq]
@[simp] theorem State.takeInput_f (s : State) : s.takeInput.f = s.f := by rw [State.takeInput_eq]
@[simp] theorem State.takeInput_b (s : State) : s.takeInput.b = s.b := by rw [State.takeInput_eq]
@[simp] theorem State.takeInput_c (s : State) : s.takeInput.c = s.c := by rw [State.takeInput_eq]
@[simp] theorem State.takeInput_d (s : State) : s.takeInput.d = s.d := by rw [State.takeInput_eq]
@[simp] theorem State.takeInput_e (s : State) : s.takeInput.e = s.e := by rw [State.takeInput_eq]
@[simp] theorem State.takeInput_h (s : State) : s.takeInput.h = s.h := by rw [State.takeInput_eq]
@[simp] theorem State.takeInput_l (s : State) : s.takeInput.l = s.l := by rw [State.takeInput_eq]
@[simp] theorem State.takeInput_sp (s : State) : s.takeInput.sp = s.sp := by rw [State.takeInput_eq]
@[simp] theorem State.takeInput_pc (s : State) : s.takeInput.pc = s.pc := by rw [State.takeInput_eq]
@[simp] theorem State.takeInput_ime (s : State) : s.takeInput.ime = s.ime := by rw [State.takeInput_eq]
@[simp] theorem State.takeInput_eiPending (s : State) : s.takeInput.eiPending = s.eiPending := by rw [State.takeInput_eq]
@[simp] theorem State.takeInput_apply (s : State) : s.takeInput.apply = s.apply := by rw [State.takeInput_eq]
@[simp] theorem State.takeInput_run (s : State) : s.takeInput.run = s.run := by rw [State.takeInput_eq]
@[simp] theorem State.takeInput_mode (s : State) : s.takeInput.mode = s.mode := by rw [State.takeInput_eq]
@[simp] theorem State.takeInput_err (s : State) : s.takeInput.err = s.err := by rw [State.takeInput_eq]
@[simp] theorem State.takeInput_params (s : State) : s.takeInput.params = s.params := by rw [State.takeInput_eq]
@[simp] theorem State.takeInput_result (s : State) : s.takeInput.result = s.result := by rw [State.takeInput_eq]
@[simp] theorem State.takeInput_inputs (s : State) : s.takeInput.inputs = s.inputs.tail := by rw [State.takeInput_eq]

/-- Without a write to IF, taking an input only drops it from the list. -/
theorem State.takeInput_of_none {s : State} (h : s.input.ifBits = none) :
    s.takeInput = { s with inputs := s.inputs.tail } := by
  unfold State.takeInput
  rw [h]
  split <;> first | rfl | contradiction

/-! The fields after an interrupt dispatch. -/

@[simp] theorem State.takeInterrupt_a (s : State) : s.takeInterrupt.a = s.a := by simp [State.takeInterrupt]
@[simp] theorem State.takeInterrupt_f (s : State) : s.takeInterrupt.f = s.f := by simp [State.takeInterrupt]
@[simp] theorem State.takeInterrupt_b (s : State) : s.takeInterrupt.b = s.b := by simp [State.takeInterrupt]
@[simp] theorem State.takeInterrupt_c (s : State) : s.takeInterrupt.c = s.c := by simp [State.takeInterrupt]
@[simp] theorem State.takeInterrupt_d (s : State) : s.takeInterrupt.d = s.d := by simp [State.takeInterrupt]
@[simp] theorem State.takeInterrupt_e (s : State) : s.takeInterrupt.e = s.e := by simp [State.takeInterrupt]
@[simp] theorem State.takeInterrupt_h (s : State) : s.takeInterrupt.h = s.h := by simp [State.takeInterrupt]
@[simp] theorem State.takeInterrupt_l (s : State) : s.takeInterrupt.l = s.l := by simp [State.takeInterrupt]
@[simp] theorem State.takeInterrupt_apply (s : State) : s.takeInterrupt.apply = s.apply := by simp [State.takeInterrupt]
@[simp] theorem State.takeInterrupt_mode (s : State) : s.takeInterrupt.mode = s.mode := by simp [State.takeInterrupt]
@[simp] theorem State.takeInterrupt_err (s : State) : s.takeInterrupt.err = s.err := by simp [State.takeInterrupt]
@[simp] theorem State.takeInterrupt_params (s : State) : s.takeInterrupt.params = s.params := by simp [State.takeInterrupt]
@[simp] theorem State.takeInterrupt_inputs (s : State) : s.takeInterrupt.inputs = s.inputs := by simp [State.takeInterrupt]
@[simp] theorem State.takeInterrupt_run (s : State) : s.takeInterrupt.run = .running := by simp [State.takeInterrupt]
@[simp] theorem State.takeInterrupt_ime (s : State) : s.takeInterrupt.ime = false := by simp [State.takeInterrupt]
@[simp] theorem State.takeInterrupt_eiPending (s : State) : s.takeInterrupt.eiPending = false := by simp [State.takeInterrupt]
@[simp] theorem State.takeInterrupt_sp (s : State) : s.takeInterrupt.sp = s.sp - 1 - 1 := by simp [State.takeInterrupt]
@[simp] theorem State.takeInterrupt_pc (s : State) : s.takeInterrupt.pc = irqVector (lowestIrq s.irqPending) := by simp [State.takeInterrupt]
@[simp] theorem State.takeInterrupt_result (s : State) : s.takeInterrupt.result = some (.cycles 20) := by simp [State.takeInterrupt]

/-- A fetch moves PC past the instruction and leaves the decoder in primary mode; nothing else changes. -/
theorem State.fetch_frame (s : State) (h : s.mode = .primary) : s.fetch.2 = { s with pc := s.fetch.2.pc } := by
  unfold State.fetch State.fetchPrimary State.fetchExtended
  rw [h]
  simp only
  split
  · cases s; simp only at h; subst h; rfl
  · rfl

end Sys2Proof.Machine
end

