-- ==== Sys2Proof/Laws/Forms.lean ====
section
/-! SUPPORT. The instructions by form: every instruction is a member of one of the families of the opcode maps or a row
of its own (`Instr.form`), and `exec` of each family member is the family's shared operation. A proof about every
instruction splits on `i.form`, then rewrites with `exec_<family>`. -/

namespace Sys2Proof

open Machine

/-- The form of an instruction: a member of a family, or a row of its own. -/
inductive Instr.Form : Instr → Prop where
  | alu (op : AluOp) (src : AluSrc) : Instr.Form (Instr.alu op src)
  | inc8 (o : Opnd8) : Instr.Form (Instr.inc8 o)
  | dec8 (o : Opnd8) : Instr.Form (Instr.dec8 o)
  | inc16 (r : R16) : Instr.Form (Instr.inc16 r)
  | dec16 (r : R16) : Instr.Form (Instr.dec16 r)
  | addHL (r : R16) : Instr.Form (Instr.addHL r)
  | rot (op : RotOp) (o : Opnd8) : Instr.Form (Instr.rot op o)
  | bit (b : Fin 8) (o : Opnd8) : Instr.Form (Instr.bit b o)
  | res (b : Fin 8) (o : Opnd8) : Instr.Form (Instr.res b o)
  | set (b : Fin 8) (o : Opnd8) : Instr.Form (Instr.set b o)
  | ldN8 (y : Opnd8) (n : Byte) : Instr.Form (Instr.ldN8 y n)
  | ldAMem (m : R16Mem) : Instr.Form (Instr.ldAMem m)
  | ldMemA (m : R16Mem) : Instr.Form (Instr.ldMemA m)
  | ldN16 (r : R16) (n : Word) : Instr.Form (Instr.ldN16 r n)
  | jrCc (cc : Cond) (e : Byte) : Instr.Form (Instr.jrCc cc e)
  | jpCc (cc : Cond) (a : Word) : Instr.Form (Instr.jpCc cc a)
  | callCc (cc : Cond) (a : Word) : Instr.Form (Instr.callCc cc a)
  | retCc (cc : Cond) : Instr.Form (Instr.retCc cc)
  | rst (y : Fin 8) : Instr.Form (Instr.rst y)
  | push (r : R16Stk) : Instr.Form (Instr.push r)
  | pop (r : R16Stk) : Instr.Form (Instr.pop r)
  | ld (y z : Opnd8) (h : ¬(y = .mHL ∧ z = .mHL)) : Instr.Form (Instr.ld y z)
  | illegal (op : Byte) (i : Instr) (h : (op, i) ∈ illegalTable) : Instr.Form i
  | nop : Instr.Form (.nop)
  | halt : Instr.Form (.halt)
  | di : Instr.Form (.di)
  | ei : Instr.Form (.ei)
  | stop (x : Byte) : Instr.Form (.stop x)
  | daa : Instr.Form (.daa)
  | cpl : Instr.Form (.cpl)
  | scf : Instr.Form (.scf)
  | ccf : Instr.Form (.ccf)
  | rlca : Instr.Form (.rlca)
  | rrca : Instr.Form (.rrca)
  | rla : Instr.Form (.rla)
  | rra : Instr.Form (.rra)
  | add_SP_e8 (e : Byte) : Instr.Form (.add_SP_e8 e)
  | ld_HL_SPe8 (e : Byte) : Instr.Form (.ld_HL_SPe8 e)
  | ldh_ma8_A (a : Byte) : Instr.Form (.ldh_ma8_A a)
  | ldh_A_ma8 (a : Byte) : Instr.Form (.ldh_A_ma8 a)
  | ld_mC_A : Instr.Form (.ld_mC_A)
  | ld_A_mC : Instr.Form (.ld_A_mC)
  | ld_ma16_A (a : Word) : Instr.Form (.ld_ma16_A a)
  | ld_A_ma16 (a : Word) : Instr.Form (.ld_A_ma16 a)
  | ld_ma16_SP (a : Word) : Instr.Form (.ld_ma16_SP a)
  | ld_SP_HL : Instr.Form (.ld_SP_HL)
  | jr_e8 (e : Byte) : Instr.Form (.jr_e8 e)
  | jp_a16 (a : Word) : Instr.Form (.jp_a16 a)
  | jp_HL : Instr.Form (.jp_HL)
  | call_a16 (a : Word) : Instr.Form (.call_a16 a)
  | ret : Instr.Form (.ret)
  | reti : Instr.Form (.reti)
  | prefixCB (op2 : Byte) : Instr.Form (.prefixCB op2)

/-- Every instruction has a form. -/
theorem Instr.form (i : Instr) : i.Form := by
  cases i with
  | nop => exact .nop
  | ld_BC_n16 n => exact .ldN16 .bc n
  | ld_mBC_A => exact .ldMemA .bc
  | inc_BC => exact .inc16 .bc
  | inc_B => exact .inc8 (.reg .b)
  | dec_B => exact .dec8 (.reg .b)
  | ld_B_n8 n => exact .ldN8 (.reg .b) n
  | rlca => exact .rlca
  | ld_ma16_SP a => exact .ld_ma16_SP a
  | add_HL_BC => exact .addHL .bc
  | ld_A_mBC => exact .ldAMem .bc
  | dec_BC => exact .dec16 .bc
  | inc_C => exact .inc8 (.reg .c)
  | dec_C => exact .dec8 (.reg .c)
  | ld_C_n8 n => exact .ldN8 (.reg .c) n
  | rrca => exact .rrca
  | stop x => exact .stop x
  | ld_DE_n16 n => exact .ldN16 .de n
  | ld_mDE_A => exact .ldMemA .de
  | inc_DE => exact .inc16 .de
  | inc_D => exact .inc8 (.reg .d)
  | dec_D => exact .dec8 (.reg .d)
  | ld_D_n8 n => exact .ldN8 (.reg .d) n
  | rla => exact .rla
  | jr_e8 e => exact .jr_e8 e
  | add_HL_DE => exact .addHL .de
  | ld_A_mDE => exact .ldAMem .de
  | dec_DE => exact .dec16 .de
  | inc_E => exact .inc8 (.reg .e)
  | dec_E => exact .dec8 (.reg .e)
  | ld_E_n8 n => exact .ldN8 (.reg .e) n
  | rra => exact .rra
  | jr_NZ_e8 e => exact .jrCc .nz e
  | ld_HL_n16 n => exact .ldN16 .hl n
  | ld_mHLi_A => exact .ldMemA .hlInc
  | inc_HL => exact .inc16 .hl
  | inc_H => exact .inc8 (.reg .h)
  | dec_H => exact .dec8 (.reg .h)
  | ld_H_n8 n => exact .ldN8 (.reg .h) n
  | daa => exact .daa
  | jr_Z_e8 e => exact .jrCc .z e
  | add_HL_HL => exact .addHL .hl
  | ld_A_mHLi => exact .ldAMem .hlInc
  | dec_HL => exact .dec16 .hl
  | inc_L => exact .inc8 (.reg .l)
  | dec_L => exact .dec8 (.reg .l)
  | ld_L_n8 n => exact .ldN8 (.reg .l) n
  | cpl => exact .cpl
  | jr_NC_e8 e => exact .jrCc .nc e
  | ld_SP_n16 n => exact .ldN16 .sp n
  | ld_mHLd_A => exact .ldMemA .hlDec
  | inc_SP => exact .inc16 .sp
  | inc_mHL => exact .inc8 .mHL
  | dec_mHL => exact .dec8 .mHL
  | ld_mHL_n8 n => exact .ldN8 .mHL n
  | scf => exact .scf
  | jr_C_e8 e => exact .jrCc .c e
  | add_HL_SP => exact .addHL .sp
  | ld_A_mHLd => exact .ldAMem .hlDec
  | dec_SP => exact .dec16 .sp
  | inc_A => exact .inc8 (.reg .a)
  | dec_A => exact .dec8 (.reg .a)
  | ld_A_n8 n => exact .ldN8 (.reg .a) n
  | ccf => exact .ccf
  | ld_B_B => exact .ld (.reg .b) (.reg .b) (by decide)
  | ld_B_C => exact .ld (.reg .b) (.reg .c) (by decide)
  | ld_B_D => exact .ld (.reg .b) (.reg .d) (by decide)
  | ld_B_E => exact .ld (.reg .b) (.reg .e) (by decide)
  | ld_B_H => exact .ld (.reg .b) (.reg .h) (by decide)
  | ld_B_L => exact .ld (.reg .b) (.reg .l) (by decide)
  | ld_B_mHL => exact .ld (.reg .b) .mHL (by decide)
  | ld_B_A => exact .ld (.reg .b) (.reg .a) (by decide)
  | ld_C_B => exact .ld (.reg .c) (.reg .b) (by decide)
  | ld_C_C => exact .ld (.reg .c) (.reg .c) (by decide)
  | ld_C_D => exact .ld (.reg .c) (.reg .d) (by decide)
  | ld_C_E => exact .ld (.reg .c) (.reg .e) (by decide)
  | ld_C_H => exact .ld (.reg .c) (.reg .h) (by decide)
  | ld_C_L => exact .ld (.reg .c) (.reg .l) (by decide)
  | ld_C_mHL => exact .ld (.reg .c) .mHL (by decide)
  | ld_C_A => exact .ld (.reg .c) (.reg .a) (by decide)
  | ld_D_B => exact .ld (.reg .d) (.reg .b) (by decide)
  | ld_D_C => exact .ld (.reg .d) (.reg .c) (by decide)
  | ld_D_D => exact .ld (.reg .d) (.reg .d) (by decide)
  | ld_D_E => exact .ld (.reg .d) (.reg .e) (by decide)
  | ld_D_H => exact .ld (.reg .d) (.reg .h) (by decide)
  | ld_D_L => exact .ld (.reg .d) (.reg .l) (by decide)
  | ld_D_mHL => exact .ld (.reg .d) .mHL (by decide)
  | ld_D_A => exact .ld (.reg .d) (.reg .a) (by decide)
  | ld_E_B => exact .ld (.reg .e) (.reg .b) (by decide)
  | ld_E_C => exact .ld (.reg .e) (.reg .c) (by decide)
  | ld_E_D => exact .ld (.reg .e) (.reg .d) (by decide)
  | ld_E_E => exact .ld (.reg .e) (.reg .e) (by decide)
  | ld_E_H => exact .ld (.reg .e) (.reg .h) (by decide)
  | ld_E_L => exact .ld (.reg .e) (.reg .l) (by decide)
  | ld_E_mHL => exact .ld (.reg .e) .mHL (by decide)
  | ld_E_A => exact .ld (.reg .e) (.reg .a) (by decide)
  | ld_H_B => exact .ld (.reg .h) (.reg .b) (by decide)
  | ld_H_C => exact .ld (.reg .h) (.reg .c) (by decide)
  | ld_H_D => exact .ld (.reg .h) (.reg .d) (by decide)
  | ld_H_E => exact .ld (.reg .h) (.reg .e) (by decide)
  | ld_H_H => exact .ld (.reg .h) (.reg .h) (by decide)
  | ld_H_L => exact .ld (.reg .h) (.reg .l) (by decide)
  | ld_H_mHL => exact .ld (.reg .h) .mHL (by decide)
  | ld_H_A => exact .ld (.reg .h) (.reg .a) (by decide)
  | ld_L_B => exact .ld (.reg .l) (.reg .b) (by decide)
  | ld_L_C => exact .ld (.reg .l) (.reg .c) (by decide)
  | ld_L_D => exact .ld (.reg .l) (.reg .d) (by decide)
  | ld_L_E => exact .ld (.reg .l) (.reg .e) (by decide)
  | ld_L_H => exact .ld (.reg .l) (.reg .h) (by decide)
  | ld_L_L => exact .ld (.reg .l) (.reg .l) (by decide)
  | ld_L_mHL => exact .ld (.reg .l) .mHL (by decide)
  | ld_L_A => exact .ld (.reg .l) (.reg .a) (by decide)
  | ld_mHL_B => exact .ld .mHL (.reg .b) (by decide)
  | ld_mHL_C => exact .ld .mHL (.reg .c) (by decide)
  | ld_mHL_D => exact .ld .mHL (.reg .d) (by decide)
  | ld_mHL_E => exact .ld .mHL (.reg .e) (by decide)
  | ld_mHL_H => exact .ld .mHL (.reg .h) (by decide)
  | ld_mHL_L => exact .ld .mHL (.reg .l) (by decide)
  | halt => exact .halt
  | ld_mHL_A => exact .ld .mHL (.reg .a) (by decide)
  | ld_A_B => exact .ld (.reg .a) (.reg .b) (by decide)
  | ld_A_C => exact .ld (.reg .a) (.reg .c) (by decide)
  | ld_A_D => exact .ld (.reg .a) (.reg .d) (by decide)
  | ld_A_E => exact .ld (.reg .a) (.reg .e) (by decide)
  | ld_A_H => exact .ld (.reg .a) (.reg .h) (by decide)
  | ld_A_L => exact .ld (.reg .a) (.reg .l) (by decide)
  | ld_A_mHL => exact .ld (.reg .a) .mHL (by decide)
  | ld_A_A => exact .ld (.reg .a) (.reg .a) (by decide)
  | add_A_B => exact .alu .add (.opnd (.reg .b))
  | add_A_C => exact .alu .add (.opnd (.reg .c))
  | add_A_D => exact .alu .add (.opnd (.reg .d))
  | add_A_E => exact .alu .add (.opnd (.reg .e))
  | add_A_H => exact .alu .add (.opnd (.reg .h))
  | add_A_L => exact .alu .add (.opnd (.reg .l))
  | add_A_mHL => exact .alu .add (.opnd .mHL)
  | add_A_A => exact .alu .add (.opnd (.reg .a))
  | adc_A_B => exact .alu .adc (.opnd (.reg .b))
  | adc_A_C => exact .alu .adc (.opnd (.reg .c))
  | adc_A_D => exact .alu .adc (.opnd (.reg .d))
  | adc_A_E => exact .alu .adc (.opnd (.reg .e))
  | adc_A_H => exact .alu .adc (.opnd (.reg .h))
  | adc_A_L => exact .alu .adc (.opnd (.reg .l))
  | adc_A_mHL => exact .alu .adc (.opnd .mHL)
  | adc_A_A => exact .alu .adc (.opnd (.reg .a))
  | sub_B => exact .alu .sub (.opnd (.reg .b))
  | sub_C => exact .alu .sub (.opnd (.reg .c))
  | sub_D => exact .alu .sub (.opnd (.reg .d))
  | sub_E => exact .alu .sub (.opnd (.reg .e))
  | sub_H => exact .alu .sub (.opnd (.reg .h))
  | sub_L => exact .alu .sub (.opnd (.reg .l))
  | sub_mHL => exact .alu .sub (.opnd .mHL)
  | sub_A => exact .alu .sub (.opnd (.reg .a))
  | sbc_A_B => exact .alu .sbc (.opnd (.reg .b))
  | sbc_A_C => exact .alu .sbc (.opnd (.reg .c))
  | sbc_A_D => exact .alu .sbc (.opnd (.reg .d))
  | sbc_A_E => exact .alu .sbc (.opnd (.reg .e))
  | sbc_A_H => exact .alu .sbc (.opnd (.reg .h))
  | sbc_A_L => exact .alu .sbc (.opnd (.reg .l))
  | sbc_A_mHL => exact .alu .sbc (.opnd .mHL)
  | sbc_A_A => exact .alu .sbc (.opnd (.reg .a))
  | and_B => exact .alu .and (.opnd (.reg .b))
  | and_C => exact .alu .and (.opnd (.reg .c))
  | and_D => exact .alu .and (.opnd (.reg .d))
  | and_E => exact .alu .and (.opnd (.reg .e))
  | and_H => exact .alu .and (.opnd (.reg .h))
  | and_L => exact .alu .and (.opnd (.reg .l))
  | and_mHL => exact .alu .and (.opnd .mHL)
  | and_A => exact .alu .and (.opnd (.reg .a))
  | xor_B => exact .alu .xor (.opnd (.reg .b))
  | xor_C => exact .alu .xor (.opnd (.reg .c))
  | xor_D => exact .alu .xor (.opnd (.reg .d))
  | xor_E => exact .alu .xor (.opnd (.reg .e))
  | xor_H => exact .alu .xor (.opnd (.reg .h))
  | xor_L => exact .alu .xor (.opnd (.reg .l))
  | xor_mHL => exact .alu .xor (.opnd .mHL)
  | xor_A => exact .alu .xor (.opnd (.reg .a))
  | or_B => exact .alu .or (.opnd (.reg .b))
  | or_C => exact .alu .or (.opnd (.reg .c))
  | or_D => exact .alu .or (.opnd (.reg .d))
  | or_E => exact .alu .or (.opnd (.reg .e))
  | or_H => exact .alu .or (.opnd (.reg .h))
  | or_L => exact .alu .or (.opnd (.reg .l))
  | or_mHL => exact .alu .or (.opnd .mHL)
  | or_A => exact .alu .or (.opnd (.reg .a))
  | cp_B => exact .alu .cp (.opnd (.reg .b))
  | cp_C => exact .alu .cp (.opnd (.reg .c))
  | cp_D => exact .alu .cp (.opnd (.reg .d))
  | cp_E => exact .alu .cp (.opnd (.reg .e))
  | cp_H => exact .alu .cp (.opnd (.reg .h))
  | cp_L => exact .alu .cp (.opnd (.reg .l))
  | cp_mHL => exact .alu .cp (.opnd .mHL)
  | cp_A => exact .alu .cp (.opnd (.reg .a))
  | ret_NZ => exact .retCc .nz
  | pop_BC => exact .pop .bc
  | jp_NZ_a16 a => exact .jpCc .nz a
  | jp_a16 a => exact .jp_a16 a
  | call_NZ_a16 a => exact .callCc .nz a
  | push_BC => exact .push .bc
  | add_A_n8 n => exact .alu .add (.imm n)
  | rst_00 => exact .rst 0
  | ret_Z => exact .retCc .z
  | ret => exact .ret
  | jp_Z_a16 a => exact .jpCc .z a
  | prefixCB op2 => exact .prefixCB op2
  | call_Z_a16 a => exact .callCc .z a
  | call_a16 a => exact .call_a16 a
  | adc_A_n8 n => exact .alu .adc (.imm n)
  | rst_08 => exact .rst 1
  | ret_NC => exact .retCc .nc
  | pop_DE => exact .pop .de
  | jp_NC_a16 a => exact .jpCc .nc a
  | illegal_D3 => exact .illegal 0xD3 _ (by decide)
  | call_NC_a16 a => exact .callCc .nc a
  | push_DE => exact .push .de
  | sub_n8 n => exact .alu .sub (.imm n)
  | rst_10 => exact .rst 2
  | ret_C => exact .retCc .c
  | reti => exact .reti
  | jp_C_a16 a => exact .jpCc .c a
  | illegal_DB => exact .illegal 0xDB _ (by decide)
  | call_C_a16 a => exact .callCc .c a
  | illegal_DD => exact .illegal 0xDD _ (by decide)
  | sbc_A_n8 n => exact .alu .sbc (.imm n)
  | rst_18 => exact .rst 3
  | ldh_ma8_A a => exact .ldh_ma8_A a
  | pop_HL => exact .pop .hl
  | ld_mC_A => exact .ld_mC_A
  | illegal_E3 => exact .illegal 0xE3 _ (by decide)
  | illegal_E4 => exact .illegal 0xE4 _ (by decide)
  | push_HL => exact .push .hl
  | and_n8 n => exact .alu .and (.imm n)
  | rst_20 => exact .rst 4
  | add_SP_e8 e => exact .add_SP_e8 e
  | jp_HL => exact .jp_HL
  | ld_ma16_A a => exact .ld_ma16_A a
  | illegal_EB => exact .illegal 0xEB _ (by decide)
  | illegal_EC => exact .illegal 0xEC _ (by decide)
  | illegal_ED => exact .illegal 0xED _ (by decide)
  | xor_n8 n => exact .alu .xor (.imm n)
  | rst_28 => exact .rst 5
  | ldh_A_ma8 a => exact .ldh_A_ma8 a
  | pop_AF => exact .pop .af
  | ld_A_mC => exact .ld_A_mC
  | di => exact .di
  | illegal_F4 => exact .illegal 0xF4 _ (by decide)
  | push_AF => exact .push .af
  | or_n8 n => exact .alu .or (.imm n)
  | rst_30 => exact .rst 6
  | ld_HL_SPe8 e => exact .ld_HL_SPe8 e
  | ld_SP_HL => exact .ld_SP_HL
  | ld_A_ma16 a => exact .ld_A_ma16 a
  | ei => exact .ei
  | illegal_FC => exact .illegal 0xFC _ (by decide)
  | illegal_FD => exact .illegal 0xFD _ (by decide)
  | cp_n8 n => exact .alu .cp (.imm n)
  | rst_38 => exact .rst 7
  | rlc_B => exact .rot .rlc (.reg .b)
  | rlc_C => exact .rot .rlc (.reg .c)
  | rlc_D => exact .rot .rlc (.reg .d)
  | rlc_E => exact .rot .rlc (.reg .e)
  | rlc_H => exact .rot .rlc (.reg .h)
  | rlc_L => exact .rot .rlc (.reg .l)
  | rlc_mHL => exact .rot .rlc .mHL
  | rlc_A => exact .rot .rlc (.reg .a)
  | rrc_B => exact .rot .rrc (.reg .b)
  | rrc_C => exact .rot .rrc (.reg .c)
  | rrc_D => exact .rot .rrc (.reg .d)
  | rrc_E => exact .rot .rrc (.reg .e)
  | rrc_H => exact .rot .rrc (.reg .h)
  | rrc_L => exact .rot .rrc (.reg .l)
  | rrc_mHL => exact .rot .rrc .mHL
  | rrc_A => exact .rot .rrc (.reg .a)
  | rl_B => exact .rot .rl (.reg .b)
  | rl_C => exact .rot .rl (.reg .c)
  | rl_D => exact .rot .rl (.reg .d)
  | rl_E => exact .rot .rl (.reg .e)
  | rl_H => exact .rot .rl (.reg .h)
  | rl_L => exact .rot .rl (.reg .l)
  | rl_mHL => exact .rot .rl .mHL
  | rl_A => exact .rot .rl (.reg .a)
  | rr_B => exact .rot .rr (.reg .b)
  | rr_C => exact .rot .rr (.reg .c)
  | rr_D => exact .rot .rr (.reg .d)
  | rr_E => exact .rot .rr (.reg .e)
  | rr_H => exact .rot .rr (.reg .h)
  | rr_L => exact .rot .rr (.reg .l)
  | rr_mHL => exact .rot .rr .mHL
  | rr_A => exact .rot .rr (.reg .a)
  | sla_B => exact .rot .sla (.reg .b)
  | sla_C => exact .rot .sla (.reg .c)
  | sla_D => exact .rot .sla (.reg .d)
  | sla_E => exact .rot .sla (.reg .e)
  | sla_H => exact .rot .sla (.reg .h)
  | sla_L => exact .rot .sla (.reg .l)
  | sla_mHL => exact .rot .sla .mHL
  | sla_A => exact .rot .sla (.reg .a)
  | sra_B => exact .rot .sra (.reg .b)
  | sra_C => exact .rot .sra (.reg .c)
  | sra_D => exact .rot .sra (.reg .d)
  | sra_E => exact .rot .sra (.reg .e)
  | sra_H => exact .rot .sra (.reg .h)
  | sra_L => exact .rot .sra (.reg .l)
  | sra_mHL => exact .rot .sra .mHL
  | sra_A => exact .rot .sra (.reg .a)
  | swap_B => exact .rot .swap (.reg .b)
  | swap_C => exact .rot .swap (.reg .c)
  | swap_D => exact .rot .swap (.reg .d)
  | swap_E => exact .rot .swap (.reg .e)
  | swap_H => exact .rot .swap (.reg .h)
  | swap_L => exact .rot .swap (.reg .l)
  | swap_mHL => exact .rot .swap .mHL
  | swap_A => exact .rot .swap (.reg .a)
  | srl_B => exact .rot .srl (.reg .b)
  | srl_C => exact .rot .srl (.reg .c)
  | srl_D => exact .rot .srl (.reg .d)
  | srl_E => exact .rot .srl (.reg .e)
  | srl_H => exact .rot .srl (.reg .h)
  | srl_L => exact .rot .srl (.reg .l)
  | srl_mHL => exact .rot .srl .mHL
  | srl_A => exact .rot .srl (.reg .a)
  | bit_0_B => exact .bit 0 (.reg .b)
  | bit_0_C => exact .bit 0 (.reg .c)
  | bit_0_D => exact .bit 0 (.reg .d)
  | bit_0_E => exact .bit 0 (.reg .e)
  | bit_0_H => exact .bit 0 (.reg .h)
  | bit_0_L => exact .bit 0 (.reg .l)
  | bit_0_mHL => exact .bit 0 .mHL
  | bit_0_A => exact .bit 0 (.reg .a)
  | bit_1_B => exact .bit 1 (.reg .b)
  | bit_1_C => exact .bit 1 (.reg .c)
  | bit_1_D => exact .bit 1 (.reg .d)
  | bit_1_E => exact .bit 1 (.reg .e)
  | bit_1_H => exact .bit 1 (.reg .h)
  | bit_1_L => exact .bit 1 (.reg .l)
  | bit_1_mHL => exact .bit 1 .mHL
  | bit_1_A => exact .bit 1 (.reg .a)
  | bit_2_B => exact .bit 2 (.reg .b)
  | bit_2_C => exact .bit 2 (.reg .c)
  | bit_2_D => exact .bit 2 (.reg .d)
  | bit_2_E => exact .bit 2 (.reg .e)
  | bit_2_H => exact .bit 2 (.reg .h)
  | bit_2_L => exact .bit 2 (.reg .l)
  | bit_2_mHL => exact .bit 2 .mHL
  | bit_2_A => exact .bit 2 (.reg .a)
  | bit_3_B => exact .bit 3 (.reg .b)
  | bit_3_C => exact .bit 3 (.reg .c)
  | bit_3_D => exact .bit 3 (.reg .d)
  | bit_3_E => exact .bit 3 (.reg .e)
  | bit_3_H => exact .bit 3 (.reg .h)
  | bit_3_L => exact .bit 3 (.reg .l)
  | bit_3_mHL => exact .bit 3 .mHL
  | bit_3_A => exact .bit 3 (.reg .a)
  | bit_4_B => exact .bit 4 (.reg .b)
  | bit_4_C => exact .bit 4 (.reg .c)
  | bit_4_D => exact .bit 4 (.reg .d)
  | bit_4_E => exact .bit 4 (.reg .e)
  | bit_4_H => exact .bit 4 (.reg .h)
  | bit_4_L => exact .bit 4 (.reg .l)
  | bit_4_mHL => exact .bit 4 .mHL
  | bit_4_A => exact .bit 4 (.reg .a)
  | bit_5_B => exact .bit 5 (.reg .b)
  | bit_5_C => exact .bit 5 (.reg .c)
  | bit_5_D => exact .bit 5 (.reg .d)
  | bit_5_E => exact .bit 5 (.reg .e)
  | bit_5_H => exact .bit 5 (.reg .h)
  | bit_5_L => exact .bit 5 (.reg .l)
  | bit_5_mHL => exact .bit 5 .mHL
  | bit_5_A => exact .bit 5 (.reg .a)
  | bit_6_B => exact .bit 6 (.reg .b)
  | bit_6_C => exact .bit 6 (.reg .c)
  | bit_6_D => exact .bit 6 (.reg .d)
  | bit_6_E => exact .bit 6 (.reg .e)
  | bit_6_H => exact .bit 6 (.reg .h)
  | bit_6_L => exact .bit 6 (.reg .l)
  | bit_6_mHL => exact .bit 6 .mHL
  | bit_6_A => exact .bit 6 (.reg .a)
  | bit_7_B => exact .bit 7 (.reg .b)
  | bit_7_C => exact .bit 7 (.reg .c)
  | bit_7_D => exact .bit 7 (.reg .d)
  | bit_7_E => exact .bit 7 (.reg .e)
  | bit_7_H => exact .bit 7 (.reg .h)
  | bit_7_L => exact .bit 7 (.reg .l)
  | bit_7_mHL => exact .bit 7 .mHL
  | bit_7_A => exact .bit 7 (.reg .a)
  | res_0_B => exact .res 0 (.reg .b)
  | res_0_C => exact .res 0 (.reg .c)
  | res_0_D => exact .res 0 (.reg .d)
  | res_0_E => exact .res 0 (.reg .e)
  | res_0_H => exact .res 0 (.reg .h)
  | res_0_L => exact .res 0 (.reg .l)
  | res_0_mHL => exact .res 0 .mHL
  | res_0_A => exact .res 0 (.reg .a)
  | res_1_B => exact .res 1 (.reg .b)
  | res_1_C => exact .res 1 (.reg .c)
  | res_1_D => exact .res 1 (.reg .d)
  | res_1_E => exact .res 1 (.reg .e)
  | res_1_H => exact .res 1 (.reg .h)
  | res_1_L => exact .res 1 (.reg .l)
  | res_1_mHL => exact .res 1 .mHL
  | res_1_A => exact .res 1 (.reg .a)
  | res_2_B => exact .res 2 (.reg .b)
  | res_2_C => exact .res 2 (.reg .c)
  | res_2_D => exact .res 2 (.reg .d)
  | res_2_E => exact .res 2 (.reg .e)
  | res_2_H => exact .res 2 (.reg .h)
  | res_2_L => exact .res 2 (.reg .l)
  | res_2_mHL => exact .res 2 .mHL
  | res_2_A => exact .res 2 (.reg .a)
  | res_3_B => exact .res 3 (.reg .b)
  | res_3_C => exact .res 3 (.reg .c)
  | res_3_D => exact .res 3 (.reg .d)
  | res_3_E => exact .res 3 (.reg .e)
  | res_3_H => exact .res 3 (.reg .h)
  | res_3_L => exact .res 3 (.reg .l)
  | res_3_mHL => exact .res 3 .mHL
  | res_3_A => exact .res 3 (.reg .a)
  | res_4_B => exact .res 4 (.reg .b)
  | res_4_C => exact .res 4 (.reg .c)
  | res_4_D => exact .res 4 (.reg .d)
  | res_4_E => exact .res 4 (.reg .e)
  | res_4_H => exact .res 4 (.reg .h)
  | res_4_L => exact .res 4 (.reg .l)
  | res_4_mHL => exact .res 4 .mHL
  | res_4_A => exact .res 4 (.reg .a)
  | res_5_B => exact .res 5 (.reg .b)
  | res_5_C => exact .res 5 (.reg .c)
  | res_5_D => exact .res 5 (.reg .d)
  | res_5_E => exact .res 5 (.reg .e)
  | res_5_H => exact .res 5 (.reg .h)
  | res_5_L => exact .res 5 (.reg .l)
  | res_5_mHL => exact .res 5 .mHL
  | res_5_A => exact .res 5 (.reg .a)
  | res_6_B => exact .res 6 (.reg .b)
  | res_6_C => exact .res 6 (.reg .c)
  | res_6_D => exact .res 6 (.reg .d)
  | res_6_E => exact .res 6 (.reg .e)
  | res_6_H => exact .res 6 (.reg .h)
  | res_6_L => exact .res 6 (.reg .l)
  | res_6_mHL => exact .res 6 .mHL
  | res_6_A => exact .res 6 (.reg .a)
  | res_7_B => exact .res 7 (.reg .b)
  | res_7_C => exact .res 7 (.reg .c)
  | res_7_D => exact .res 7 (.reg .d)
  | res_7_E => exact .res 7 (.reg .e)
  | res_7_H => exact .res 7 (.reg .h)
  | res_7_L => exact .res 7 (.reg .l)
  | res_7_mHL => exact .res 7 .mHL
  | res_7_A => exact .res 7 (.reg .a)
  | set_0_B => exact .set 0 (.reg .b)
  | set_0_C => exact .set 0 (.reg .c)
  | set_0_D => exact .set 0 (.reg .d)
  | set_0_E => exact .set 0 (.reg .e)
  | set_0_H => exact .set 0 (.reg .h)
  | set_0_L => exact .set 0 (.reg .l)
  | set_0_mHL => exact .set 0 .mHL
  | set_0_A => exact .set 0 (.reg .a)
  | set_1_B => exact .set 1 (.reg .b)
  | set_1_C => exact .set 1 (.reg .c)
  | set_1_D => exact .set 1 (.reg .d)
  | set_1_E => exact .set 1 (.reg .e)
  | set_1_H => exact .set 1 (.reg .h)
  | set_1_L => exact .set 1 (.reg .l)
  | set_1_mHL => exact .set 1 .mHL
  | set_1_A => exact .set 1 (.reg .a)
  | set_2_B => exact .set 2 (.reg .b)
  | set_2_C => exact .set 2 (.reg .c)
  | set_2_D => exact .set 2 (.reg .d)
  | set_2_E => exact .set 2 (.reg .e)
  | set_2_H => exact .set 2 (.reg .h)
  | set_2_L => exact .set 2 (.reg .l)
  | set_2_mHL => exact .set 2 .mHL
  | set_2_A => exact .set 2 (.reg .a)
  | set_3_B => exact .set 3 (.reg .b)
  | set_3_C => exact .set 3 (.reg .c)
  | set_3_D => exact .set 3 (.reg .d)
  | set_3_E => exact .set 3 (.reg .e)
  | set_3_H => exact .set 3 (.reg .h)
  | set_3_L => exact .set 3 (.reg .l)
  | set_3_mHL => exact .set 3 .mHL
  | set_3_A => exact .set 3 (.reg .a)
  | set_4_B => exact .set 4 (.reg .b)
  | set_4_C => exact .set 4 (.reg .c)
  | set_4_D => exact .set 4 (.reg .d)
  | set_4_E => exact .set 4 (.reg .e)
  | set_4_H => exact .set 4 (.reg .h)
  | set_4_L => exact .set 4 (.reg .l)
  | set_4_mHL => exact .set 4 .mHL
  | set_4_A => exact .set 4 (.reg .a)
  | set_5_B => exact .set 5 (.reg .b)
  | set_5_C => exact .set 5 (.reg .c)
  | set_5_D => exact .set 5 (.reg .d)
  | set_5_E => exact .set 5 (.reg .e)
  | set_5_H => exact .set 5 (.reg .h)
  | set_5_L => exact .set 5 (.reg .l)
  | set_5_mHL => exact .set 5 .mHL
  | set_5_A => exact .set 5 (.reg .a)
  | set_6_B => exact .set 6 (.reg .b)
  | set_6_C => exact .set 6 (.reg .c)
  | set_6_D => exact .set 6 (.reg .d)
  | set_6_E => exact .set 6 (.reg .e)
  | set_6_H => exact .set 6 (.reg .h)
  | set_6_L => exact .set 6 (.reg .l)
  | set_6_mHL => exact .set 6 .mHL
  | set_6_A => exact .set 6 (.reg .a)
  | set_7_B => exact .set 7 (.reg .b)
  | set_7_C => exact .set 7 (.reg .c)
  | set_7_D => exact .set 7 (.reg .d)
  | set_7_E => exact .set 7 (.reg .e)
  | set_7_H => exact .set 7 (.reg .h)
  | set_7_L => exact .set 7 (.reg .l)
  | set_7_mHL => exact .set 7 .mHL
  | set_7_A => exact .set 7 (.reg .a)

/-! ## `exec` of each family -/

namespace Machine

@[simp] theorem exec_alu (op : AluOp) (src : AluSrc) (s : State) : exec (Instr.alu op src) s = .next (aluOp op src s) := by
  cases op <;> rcases src with ⟨⟨_ | _ | _ | _ | _ | _ | _⟩ | _⟩ | n <;> rfl

@[simp] theorem exec_inc8 (o : Opnd8) (s : State) : exec (Instr.inc8 o) s = .next (inc8Op o s) := by
  rcases o with ⟨_ | _ | _ | _ | _ | _ | _⟩ | _ <;> rfl

@[simp] theorem exec_dec8 (o : Opnd8) (s : State) : exec (Instr.dec8 o) s = .next (dec8Op o s) := by
  rcases o with ⟨_ | _ | _ | _ | _ | _ | _⟩ | _ <;> rfl

@[simp] theorem exec_inc16 (r : R16) (s : State) : exec (Instr.inc16 r) s = .next (inc16Op r s) := by
  cases r <;> rfl

@[simp] theorem exec_dec16 (r : R16) (s : State) : exec (Instr.dec16 r) s = .next (dec16Op r s) := by
  cases r <;> rfl

@[simp] theorem exec_addHL (r : R16) (s : State) : exec (Instr.addHL r) s = .next (addHlOp r s) := by
  cases r <;> rfl

@[simp] theorem exec_rot (op : RotOp) (o : Opnd8) (s : State) : exec (Instr.rot op o) s = .next (rotOp op o s) := by
  cases op <;> rcases o with ⟨_ | _ | _ | _ | _ | _ | _⟩ | _ <;> rfl

@[simp] theorem exec_bit (b : Fin 8) (o : Opnd8) (s : State) : exec (Instr.bit b o) s = .next (bitOp b o s) := by
  fin_cases b <;> rcases o with ⟨_ | _ | _ | _ | _ | _ | _⟩ | _ <;> rfl

@[simp] theorem exec_res (b : Fin 8) (o : Opnd8) (s : State) : exec (Instr.res b o) s = .next (resOp b o s) := by
  fin_cases b <;> rcases o with ⟨_ | _ | _ | _ | _ | _ | _⟩ | _ <;> rfl

@[simp] theorem exec_set (b : Fin 8) (o : Opnd8) (s : State) : exec (Instr.set b o) s = .next (setOp b o s) := by
  fin_cases b <;> rcases o with ⟨_ | _ | _ | _ | _ | _ | _⟩ | _ <;> rfl

@[simp] theorem exec_ldN8 (y : Opnd8) (n : Byte) (s : State) : exec (Instr.ldN8 y n) s = .next (ldN8Op y n s) := by
  rcases y with ⟨_ | _ | _ | _ | _ | _ | _⟩ | _ <;> rfl

@[simp] theorem exec_ldAMem (m : R16Mem) (s : State) : exec (Instr.ldAMem m) s = .next (ldAMemOp m s) := by
  cases m <;> rfl

@[simp] theorem exec_ldMemA (m : R16Mem) (s : State) : exec (Instr.ldMemA m) s = .next (ldMemAOp m s) := by
  cases m <;> rfl

@[simp] theorem exec_ldN16 (r : R16) (n : Word) (s : State) : exec (Instr.ldN16 r n) s = .next (ldN16Op r n s) := by
  cases r <;> rfl

@[simp] theorem exec_jrCc (cc : Cond) (e : Byte) (s : State) : exec (Instr.jrCc cc e) s = .next (jrCcOp cc e s) := by
  cases cc <;> rfl

@[simp] theorem exec_jpCc (cc : Cond) (a : Word) (s : State) : exec (Instr.jpCc cc a) s = .next (jpCcOp cc a s) := by
  cases cc <;> rfl

@[simp] theorem exec_callCc (cc : Cond) (a : Word) (s : State) : exec (Instr.callCc cc a) s = .next (callCcOp cc a s) := by
  cases cc <;> rfl

@[simp] theorem exec_retCc (cc : Cond) (s : State) : exec (Instr.retCc cc) s = .next (retCcOp cc s) := by
  cases cc <;> rfl

@[simp] theorem exec_rst (y : Fin 8) (s : State) : exec (Instr.rst y) s = .next (rstOp y s) := by
  fin_cases y <;> rfl

@[simp] theorem exec_push (r : R16Stk) (s : State) : exec (Instr.push r) s = .next (pushOp r s) := by
  cases r <;> rfl

@[simp] theorem exec_pop (r : R16Stk) (s : State) : exec (Instr.pop r) s = .next (popOp r s) := by
  cases r <;> rfl

@[simp] theorem exec_ld (y z : Opnd8) (h : ¬(y = .mHL ∧ z = .mHL)) (s : State) :
    exec (Instr.ld y z) s = .next (ldOp y z s) := by
  rcases y with ⟨_ | _ | _ | _ | _ | _ | _⟩ | _ <;> rcases z with ⟨_ | _ | _ | _ | _ | _ | _⟩ | _ <;>
    first | rfl | exact absurd ⟨rfl, rfl⟩ h

/-- Every row of the illegal table raises IllegalOpcode with its own byte (R752). -/
theorem exec_illegal {op : Byte} {i : Instr} (h : (op, i) ∈ illegalTable) (s : State) :
    exec i s = .next (s.raiseIllegal op) := by
  have rows : illegalTable.Forall (fun row => exec row.2 s = .next (s.raiseIllegal row.1)) := by
    unfold illegalTable
    repeat' apply And.intro
    all_goals rfl
  exact List.forall_iff_forall_mem.1 rows (op, i) h

end Machine

end Sys2Proof
end

