-- ==== Sys2Proof/Laws/Flags.lean ====
section
/-! SUPPORT. The small lemmas of bytes and words, of the flag byte, and of the pure functions of the ALU, in the arithmetic
the rules are written in. -/

namespace Sys2Proof

/-! ## Bytes and words -/

theorem wordOf_toNat (hi lo : Byte) : (wordOf hi lo).toNat = hi.toNat * 256 + lo.toNat := by
  refine (BitVec.toNat_append hi lo).trans ?_
  rw [← Nat.shiftLeft_add_eq_or_of_lt lo.isLt, Nat.shiftLeft_eq]

theorem hiByte_toNat (w : Word) : (hiByte w).toNat = w.toNat / 256 := by
  simp [hiByte, BitVec.extractLsb'_toNat, Nat.shiftRight_eq_div_pow]
  omega

theorem loByte_toNat (w : Word) : (loByte w).toNat = w.toNat % 256 := by
  simp [loByte, BitVec.extractLsb'_toNat]

@[simp] theorem hiByte_wordOf (hi lo : Byte) : hiByte (wordOf hi lo) = hi := by
  apply BitVec.eq_of_toNat_eq
  rw [hiByte_toNat, wordOf_toNat]
  omega

@[simp] theorem loByte_wordOf (hi lo : Byte) : loByte (wordOf hi lo) = lo := by
  apply BitVec.eq_of_toNat_eq
  rw [loByte_toNat, wordOf_toNat]
  omega

@[simp] theorem wordOf_hiByte_loByte (w : Word) : wordOf (hiByte w) (loByte w) = w := by
  apply BitVec.eq_of_toNat_eq
  rw [wordOf_toNat, hiByte_toNat, loByte_toNat]
  omega

/-- Masking the low byte of a word to its high nibble (R104, R114). -/
theorem masked_word (hi lo : Byte) : wordOf hi lo &&& 0xFFF0#16 = wordOf hi (lo &&& 0xF0#8) := by
  rw [show (0xFFF0#16) = wordOf 0xFF#8 0xF0#8 by decide]
  refine BitVec.and_append.trans ?_
  rw [show hi &&& 0xFF#8 = hi from BitVec.and_allOnes]
  rfl

namespace Machine

/-- `sext_16` is sign extension (R16). -/
theorem sext16_eq_signExtend (e : Byte) : sext16 e = e.signExtend 16 := by revert e; decide

/-! ## The flag byte -/

@[simp] theorem flagByte_z (z n h c : Bool) : (flagByte z n h c)[7] = z := by revert z n h c; decide
@[simp] theorem flagByte_n (z n h c : Bool) : (flagByte z n h c)[6] = n := by revert z n h c; decide
@[simp] theorem flagByte_h (z n h c : Bool) : (flagByte z n h c)[5] = h := by revert z n h c; decide
@[simp] theorem flagByte_c (z n h c : Bool) : (flagByte z n h c)[4] = c := by revert z n h c; decide

/-- A write to F leaves the flag byte as it is: its low nibble is already zero (R114). -/
@[simp] theorem flagByte_masked (z n h c : Bool) : flagByte z n h c &&& 0xF0#8 = flagByte z n h c := by
  revert z n h c; decide

/-- The low nibble of a masked byte is zero (R114). -/
theorem masked_low (v : Byte) : (v &&& 0xF0#8) &&& 0x0F#8 = 0 := by rw [BitVec.and_assoc]; simp

/-- A byte with a zero low nibble is its own mask (R114). -/
theorem masked_of_low {v : Byte} (h : v &&& 0x0F#8 = 0) : v &&& 0xF0#8 = v := by revert v; decide

/-- `flags(z, n, h, c)` writes F, and only F (R17). -/
theorem State.flags_eq (s : State) (z n h c : Option Bool) :
    s.flags z n h c = { s with f := flagByte (z.getD s.zf) (n.getD s.nf) (h.getD s.hf) (c.getD s.cf) } := by
  simp [State.flags, State.setF]

/-! ## The pure functions -/

/-- The borrow of a subtraction without borrow-in is the unsigned comparison (R430 c). -/
theorem sub8_borrow (a b : Byte) : (sub8 a b false).c = decide (a.toNat < b.toNat) := by
  simp [sub8]

end Machine

end Sys2Proof
end

