-- ==== Sys2Proof/Laws/Decode.lean ====
section
/-! SUPPORT. What the decoder does with a list of bytes, by the length of the instruction its first byte begins. -/

namespace Sys2Proof

/-- A first byte of length 1 takes no operand byte. -/
theorem decode_one {op : Byte} {rest : List Byte} (h : instrLength op = 1) :
    decode (op :: rest) = .ok (decodeBytes op (rest.getD 0 0) (rest.getD 1 0), rest) := by
  simp [decode, h]

/-- A first byte of length 2 takes the byte after it. -/
theorem decode_two {op b1 : Byte} {rest : List Byte} (h : instrLength op = 2) :
    decode (op :: b1 :: rest) = .ok (decodeBytes op b1 (rest.getD 0 0), rest) := by
  simp [decode, h]

/-- A first byte of length 3 takes the two bytes after it. -/
theorem decode_three {op b1 b2 : Byte} {rest : List Byte} (h : instrLength op = 3) :
    decode (op :: b1 :: b2 :: rest) = .ok (decodeBytes op b1 b2, rest) := by
  simp [decode, h]

/-- An instruction has one, two or three bytes (R302). -/
theorem instrLength_cases (op : Byte) : instrLength op = 1 ∨ instrLength op = 2 ∨ instrLength op = 3 := by
  unfold instrLength
  split
  · exact .inr (.inr rfl)
  · split
    · exact .inr (.inl rfl)
    · exact .inl rfl

/-- What `decode` can answer: it reads as many bytes as the first byte says and leaves the rest. -/
theorem decode_ok {bytes rest : List Byte} {i : Instr} (h : decode bytes = .ok (i, rest)) :
    (∃ op, bytes = op :: rest ∧ instrLength op = 1 ∧ i = decodeBytes op (rest.getD 0 0) (rest.getD 1 0)) ∨
    (∃ op b1, bytes = op :: b1 :: rest ∧ instrLength op = 2 ∧ i = decodeBytes op b1 (rest.getD 0 0)) ∨
    (∃ op b1 b2, bytes = op :: b1 :: b2 :: rest ∧ instrLength op = 3 ∧ i = decodeBytes op b1 b2) := by
  match bytes with
  | [] => simp [decode] at h
  | op :: tail =>
    rcases instrLength_cases op with hl | hl | hl
    · rw [decode_one hl] at h
      simp only [Except.ok.injEq, Prod.mk.injEq] at h
      obtain ⟨rfl, rfl⟩ := h
      exact .inl ⟨op, rfl, hl, rfl⟩
    · match tail with
      | [] => simp [decode, hl] at h
      | b1 :: tail =>
        rw [decode_two hl] at h
        simp only [Except.ok.injEq, Prod.mk.injEq] at h
        obtain ⟨rfl, rfl⟩ := h
        exact .inr (.inl ⟨op, b1, rfl, hl, rfl⟩)
    · match tail with
      | [] => simp [decode, hl] at h
      | [b1] => simp [decode, hl] at h
      | b1 :: b2 :: tail =>
        rw [decode_three hl] at h
        simp only [Except.ok.injEq, Prod.mk.injEq] at h
        obtain ⟨rfl, rfl⟩ := h
        exact .inr (.inr ⟨op, b1, b2, rfl, hl, rfl⟩)

end Sys2Proof
end

