-- ==== Sys2Proof/Laws/Step.lean ====
section
/-! SUPPORT. What the step can do, said once: the fetch as the decoder's answer, that every instruction answers a next
state, and the four kinds of a step. -/

namespace Sys2Proof.Machine

/-- Every instruction answers a next state. -/
theorem exec_next (i : Instr) (s : State) : ∃ t, exec i s = .next t := by
  cases i <;> exact ⟨_, rfl⟩

/-- A byte read after a byte write. -/
theorem State.memRead_memWrite {s : State} (h : s.mem.wf = true) (a x : Word) (v : Byte) :
    (s.memWrite a v).memRead x = if x = a then v else s.memRead x := by
  simp only [State.memRead, State.memWrite]
  rw [Memory.readAt_writeAt s.mem 0 h]
  simp [BitVec.toNat_inj]

/-- The fetch in primary mode gives what the decoder reads from the three bytes at PC, and moves PC past the
instruction's bytes. -/
theorem State.fetch_primary {s : State} (h : s.mode = .primary) :
    s.fetch = (decodeBytes (s.memRead s.pc) (s.memRead (s.pc + 1)) (s.memRead (s.pc + 2)),
      { s with pc := s.pc + BitVec.ofNat 16 (instrLength (s.memRead s.pc)) }) := by
  cases s
  simp only at h
  subst h
  simp only [State.fetch, State.fetchPrimary, decodeBytes]
  split
  · rename_i hp
    rw [hp, show instrLength prefixByte = 2 by decide]
    simp only [State.fetchExtended]
    congr 2
    bv_omega
  · rfl

/-- What a step can do, by the state `t` it starts from once its input is taken: return the recorded error, dispatch an
interrupt, sleep or wake, or execute an instruction. -/
theorem step_cases (s t : State) (ht : t = s.takeInput) :
    (t.run = .haltedError ∧ step s = .next t.repeatError) ∨
    ((t.run = .running ∨ t.run = .halted) ∧ (t.irqSeen && t.ime) = true ∧ step s = .next t.takeInterrupt) ∨
    ((t.run = .stopped ∨ (t.run = .halted ∧ (t.irqSeen && t.ime) = false)) ∧
      step s = .next (State.charge 4 { t with
        run := if s.input.wake || (decide (t.run = .halted) && t.irqSeen) then .running else t.run })) ∨
    (t.run = .running ∧ (t.irqSeen && t.ime) = false ∧ step s = t.executeStep) := by
  have hs : step s = (match t.stepKind s.input.wake with
    | .repeatError => .next t.repeatError
    | .dispatch => .next t.takeInterrupt
    | .wake => .next t.wakeStep
    | .sleep => .next t.sleepStep
    | .execute => t.executeStep) := by rw [ht]; rfl
  rw [hs, State.stepKind]
  clear hs ht
  rcases hr : t.run with _ | _ | _ | _
  · cases hd : (t.irqSeen && t.ime) <;> simp
  · cases hd : (t.irqSeen && t.ime) <;> cases hq : t.irqSeen <;> cases hw : s.input.wake <;>
      simp [State.wakeStep, State.sleepStep] <;> simp_all
    rw [← hr]
  · cases hw : s.input.wake <;> simp [State.wakeStep, State.sleepStep]
    rw [← hr]
  · simp

/-- An instruction step: the instruction fetched is executed from the state with the EI latch taken and PC past its
bytes, and the latch is applied at the end. -/
theorem State.executeStep_primary {t : State} (h : t.mode = .primary) :
    ∃ u, exec (decodeBytes (t.memRead t.pc) (t.memRead (t.pc + 1)) (t.memRead (t.pc + 2)))
        { t with
          pc := t.pc + BitVec.ofNat 16 (instrLength (t.memRead t.pc)), apply := t.eiPending, eiPending := false } =
        .next u ∧
      t.executeStep = .next { u with ime := u.ime || u.apply, apply := false } := by
  obtain ⟨u, hu⟩ := exec_next (decodeBytes (t.memRead t.pc) (t.memRead (t.pc + 1)) (t.memRead (t.pc + 2)))
    { t with pc := t.pc + BitVec.ofNat 16 (instrLength (t.memRead t.pc)), apply := t.eiPending, eiPending := false }
  refine ⟨u, hu, ?_⟩
  rw [State.executeStep, State.fetch_primary (by simpa using h)]
  show Out.mapNext State.endInstr (exec _ { t with
    pc := t.pc + BitVec.ofNat 16 (instrLength (t.memRead t.pc)), apply := t.eiPending, eiPending := false }) = _
  erw [hu]
  rfl

end Sys2Proof.Machine
end

