-- ==== Sys2Proof/Certificates/Slice0/Obligations.lean ====
section
/-! DEFINITION. The statements for the provers, from the numbered rules of the spec. A statement about `exec i s` is about the
state `s` after the fetch, so `s.pc` is the address after the instruction's last byte (R112); StepRunsTheDecodedInstruction
ties it to a step. Every instruction's result is stated as the whole next state, so what it does not name is unchanged. -/

namespace Sys2Proof.Machine

/-! ## Words for the statements -/

/-- One of two values: the first for a register operand, the second for the byte at HL. -/
def byOperand {α : Type} (o : Opnd8) (register memory : α) : α :=
  match o with
  | .reg _ => register
  | .mHL => memory

/-- `t` reads as `s` at every address but `a`, where it reads `v`, when memory is in its canonical form. -/
def StoresByte (s t : State) (a : Word) (v : Byte) : Prop :=
  s.mem.wf = true → ∀ x : Word, t.memRead x = if x = a then v else s.memRead x

/-- `t` reads as `s` at every address but `a` and `a + 1` (modulo 2^16), which hold the low and the high byte of `v`. -/
def StoresWord (s t : State) (a v : Word) : Prop :=
  s.mem.wf = true → ∀ x : Word, t.memRead x =
    if x = a then BitVec.ofNat 8 (v.toNat % 256)
    else if x = a + 1 then BitVec.ofNat 8 (v.toNat / 256)
    else s.memRead x

/-- `t` is `s` with the 8-bit operand `o` holding `v`, and nothing else changed. -/
def Puts (s t : State) (o : Opnd8) (v : Byte) : Prop :=
  match o with
  | .reg r => t = s.setR8 r v
  | .mHL => StoresByte s t s.hl v ∧ t = { s with mem := t.mem }

/-- `t` is `s` after a push of `v`: the two bytes at SP - 2 hold it, low byte first, and SP is two lower. -/
def Pushes (s t : State) (v : Word) : Prop :=
  StoresWord s t (s.sp - 2) v ∧ t = { s with mem := t.mem, sp := s.sp - 2 }

/-- The 16-bit value at SP, low byte first, the high byte at SP + 1 modulo 2^16. -/
def State.top (s : State) : Word :=
  BitVec.ofNat 16 ((s.memRead (s.sp + 1)).toNat * 256 + (s.memRead s.sp).toNat)

/-- The cost of an extended instruction from its entry cost: 4 more when CB_TIMING = document (R322). -/
def State.extendedCost (s : State) (entry : Nat) : Nat :=
  match s.params.cbTiming with
  | .document => 4 + entry
  | .hardware => entry

/-- Is an interrupt dispatched at the start of a step from this state, its input taken (R808)? -/
def State.Dispatches (t : State) : Prop :=
  t.params.irqModel = .gbStandard ∧ (t.memRead 0xFFFF &&& t.memRead 0xFF0F &&& 0x1F) ≠ 0 ∧ t.ime = true

/-- Does a step from this state, its input taken, execute an instruction (R900)? -/
def State.Executes (t : State) : Prop := t.run = .running ∧ t.mode = .primary ∧ ¬t.Dispatches

/-- The three bytes from PC up (modulo 2^16). -/
def State.code (t : State) : List Byte := [t.memRead t.pc, t.memRead (t.pc + 1), t.memRead (t.pc + 2)]

/-- `n` steps in a row, each answering a next state. -/
inductive Steps : Nat → State → State → Prop where
  | zero (s : State) : Steps 0 s s
  | succ (n : Nat) (s t u : State) (h : step s = .next t) (hs : Steps n t u) : Steps (n + 1) s u

/-- The eleven illegal first bytes (R307). -/
def illegalBytes : List Byte := [0xD3, 0xDB, 0xDD, 0xE3, 0xE4, 0xEB, 0xEC, 0xED, 0xF4, 0xFC, 0xFD]

/-- The eleven illegal rows of the opcode table, in the order of their bytes (R752). -/
def illegalInstrs : List Instr :=
  [.illegal_D3, .illegal_DB, .illegal_DD, .illegal_E3, .illegal_E4, .illegal_EB, .illegal_EC, .illegal_ED, .illegal_F4,
   .illegal_FC, .illegal_FD]

/-- Two decimal digits in a byte. -/
def bcd (n : Nat) : Byte := BitVec.ofNat 8 (n / 10 * 16 + n % 10)

end Sys2Proof.Machine

section

open Sys2Proof Sys2Proof.Machine

/-! ## Reset and creation -/

/-- R128, R129: the power-on values of the registers and of the control state. -/
def Obligations.ResetIsThePowerOnState : Prop :=
  let s := State.reset
  (s.a = 0x01 ∧ s.f = 0xB0 ∧ s.b = 0x00 ∧ s.c = 0x13 ∧ s.d = 0x00 ∧ s.e = 0xD8 ∧ s.h = 0x01 ∧ s.l = 0x4D ∧
    s.sp = 0xFFFE ∧ s.pc = 0x0000) ∧
  (s.zf = true ∧ s.nf = false ∧ s.hf = true ∧ s.cf = true) ∧
  (s.af = 0x01B0 ∧ s.bc = 0x0013 ∧ s.de = 0x00D8 ∧ s.hl = 0x014D) ∧
  s.ime = false ∧ s.eiPending = false ∧ s.run = .running ∧ s.mode = .primary ∧ s.err = none

/-- The invariant holds of the machine right after reset, and of every created machine, whatever its parameters, its image
and the inputs to come. -/
def Obligations.ResetHasTheInvariant : Prop :=
  State.reset.Inv ∧
  ∀ (params : Params) (image : List Byte) (inputs : List HostInput), image.length = 65536 →
    State.Inv { create params image with inputs := inputs }

/-- R130: at power-on memory is the image the host loads, byte for byte, and creating a machine sets nothing else. -/
def Obligations.CreateLoadsTheImage : Prop :=
  ∀ (params : Params) (image : List Byte), image.length = 65536 →
    (∀ x : Word, (create params image).memRead x = image.getD x.toNat 0) ∧
    create params image = { State.reset with params := params, mem := (create params image).mem }

/-! ## Registers and flags -/

/-- R102 to R105: a pair is its two halves, high byte first, and a pair write writes both halves; AF masks F. -/
def Obligations.PairsAreViewsOfTheirHalves : Prop :=
  ∀ (s : State) (v : Word),
    let hi := BitVec.ofNat 8 (v.toNat / 256)
    let lo := BitVec.ofNat 8 (v.toNat % 256)
    (s.af.toNat = s.a.toNat * 256 + s.f.toNat ∧ s.bc.toNat = s.b.toNat * 256 + s.c.toNat ∧
      s.de.toNat = s.d.toNat * 256 + s.e.toNat ∧ s.hl.toNat = s.h.toNat * 256 + s.l.toNat) ∧
    (s.setStk .bc v = { s with b := hi, c := lo } ∧ s.setStk .de v = { s with d := hi, e := lo } ∧
      s.setStk .hl v = { s with h := hi, l := lo } ∧ s.setStk .af v = { s with a := hi, f := lo &&& 0xF0 }) ∧
    (s.setR16 .bc v = s.setStk .bc v ∧ s.setR16 .de v = s.setStk .de v ∧ s.setR16 .hl v = s.setStk .hl v) ∧
    ((s.setStk .bc v).bc = v ∧ (s.setStk .de v).de = v ∧ (s.setStk .hl v).hl = v ∧
      (s.setStk .af v).af = v &&& 0xFFF0)

/-- R106: a write to a register or a pair changes the register it names, or its two halves, and nothing else. -/
def Obligations.RegisterWriteChangesOnlyItself : Prop :=
  ∀ (s : State) (r : R8) (v : Byte) (w : Word),
    (s.setR8 r v).getR8 r = v ∧
    (∀ q : R8, q ≠ r → (s.setR8 r v).getR8 q = s.getR8 q) ∧
    { s.setR8 r v with a := s.a, b := s.b, c := s.c, d := s.d, e := s.e, h := s.h, l := s.l } = s ∧
    (s.getR8 .a = s.a ∧ s.getR8 .b = s.b ∧ s.getR8 .c = s.c ∧ s.getR8 .d = s.d ∧ s.getR8 .e = s.e ∧
      s.getR8 .h = s.h ∧ s.getR8 .l = s.l) ∧
    (s.setR16 .sp w = { s with sp := w } ∧ s.getR16 .sp = s.sp ∧ s.setPc w = { s with pc := w }) ∧
    s.setF v = { s with f := v &&& 0xF0 } ∧
    (s.setStk .bc w = { s with b := hiByte w, c := loByte w } ∧ s.setStk .de w = { s with d := hiByte w, e := loByte w } ∧
      s.setStk .hl w = { s with h := hiByte w, l := loByte w } ∧
      s.setStk .af w = { s with a := hiByte w, f := loByte w &&& 0xF0 })

/-- R17, R114, R115: a flag update writes the flags it names, keeps the others, leaves the low nibble of F zero, and
changes nothing but F; so does every other write to F. -/
def Obligations.FlagWritesAreMaskedAndSeparate : Prop :=
  ∀ (s : State) (z n h c : Option Bool) (v : Byte),
    let t := s.flags z n h c
    t.zf = z.getD s.zf ∧ t.nf = n.getD s.nf ∧ t.hf = h.getD s.hf ∧ t.cf = c.getD s.cf ∧
    t.f &&& 0x0F = 0 ∧ t = { s with f := t.f } ∧
    (s.zf = s.f.getLsbD 7 ∧ s.nf = s.f.getLsbD 6 ∧ s.hf = s.f.getLsbD 5 ∧ s.cf = s.f.getLsbD 4) ∧
    (s.setF v).f = v &&& 0xF0 ∧ (s.setF v).f &&& 0x0F = 0 ∧ (∀ w : Word, (s.setStk .af w).f &&& 0x0F = 0)

/-! ## Memory -/

/-- After a write to an address that address reads the byte written, every other address reads as before, and nothing but
memory changes (R202). That memory stays in canonical form is the model's choice of form (log 1, DESIGN CHOICE). -/
def Obligations.MemoryReadsTheLastWrite : Prop :=
  ∀ (s : State) (a : Word) (v : Byte), s.mem.wf = true →
    (s.memWrite a v).memRead a = v ∧
    (∀ x : Word, x ≠ a → (s.memWrite a v).memRead x = s.memRead x) ∧
    s.memWrite a v = { s with mem := (s.memWrite a v).mem } ∧ (s.memWrite a v).mem.wf = true

/-- R204 to R207: 16-bit accesses are little-endian, at any address, and wrap at 0xFFFF. -/
def Obligations.WordAccessIsLittleEndian : Prop :=
  ∀ (s : State) (a v : Word),
    (s.memRead16 a).toNat = (s.memRead (a + 1)).toNat * 256 + (s.memRead a).toNat ∧
    (s.mem.wf = true →
      ((s.memWrite16 a v).memRead a).toNat = v.toNat % 256 ∧
      ((s.memWrite16 a v).memRead (a + 1)).toNat = v.toNat / 256 ∧
      (∀ x : Word, x ≠ a → x ≠ a + 1 → (s.memWrite16 a v).memRead x = s.memRead x) ∧
      (s.memWrite16 a v).memRead16 a = v) ∧
    (0xFFFF : Word) + 1 = 0x0000

/-- Memories in canonical form that read the same at every address are the same data (log 1's form). -/
def Obligations.CanonicalMemoriesThatReadTheSameAreEqual : Prop :=
  ∀ m m' : Memory, m.wf = true → m'.wf = true → (∀ x : Word, m.readAt x.toNat = m'.readAt x.toNat) → m = m'

/-! ## Encoding -/

/-- R310 to R316: the operand, condition and operation fields, the opcodes they are fields of, and what each operand and
condition reads. -/
def Obligations.FieldsSelectTheirOperands : Prop :=
  ((List.finRange 8).map Opnd8.ofCode = [.reg .b, .reg .c, .reg .d, .reg .e, .reg .h, .reg .l, .mHL, .reg .a] ∧
    (List.range 4).map R16.ofCode = [.bc, .de, .hl, .sp] ∧
    (List.range 4).map R16Stk.ofCode = [.bc, .de, .hl, .af] ∧
    (List.range 4).map R16Mem.ofCode = [.bc, .de, .hlInc, .hlDec] ∧
    (List.range 4).map Cond.ofCode = [.nz, .z, .nc, .c] ∧
    (List.finRange 8).map AluOp.ofCode = [.add, .adc, .sub, .sbc, .and, .xor, .or, .cp] ∧
    (List.finRange 8).map RotOp.ofCode = [.rlc, .rrc, .rl, .rr, .sla, .sra, .swap, .srl] ∧
    (∀ o : Opnd8, o.code < 8 ∧ Opnd8.ofCode (Fin.ofNat 8 o.code) = o)) ∧
  (∀ (y z : Fin 8) (n : Byte),
    let op (base : Nat) : Byte := BitVec.ofNat 8 (base + 8 * y.val + z.val)
    let column (base : Nat) : Byte := BitVec.ofNat 8 (base + 8 * y.val)
    decode [op 0x40] = .ok (Instr.ld (.ofCode y) (.ofCode z), []) ∧
    decode [op 0x80] = .ok (Instr.alu (.ofCode y) (.opnd (.ofCode z)), []) ∧
    decode [column 0x04] = .ok (Instr.inc8 (.ofCode y), []) ∧
    decode [column 0x05] = .ok (Instr.dec8 (.ofCode y), []) ∧
    decode [column 0x06, n] = .ok (Instr.ldN8 (.ofCode y) n, []) ∧
    decode [column 0xC6, n] = .ok (Instr.alu (.ofCode y) (.imm n), []) ∧
    decode [0xCB, op 0x00] = .ok (Instr.rot (.ofCode y) (.ofCode z), []) ∧
    decode [0xCB, op 0x40] = .ok (Instr.bit y (.ofCode z), []) ∧
    decode [0xCB, op 0x80] = .ok (Instr.res y (.ofCode z), []) ∧
    decode [0xCB, op 0xC0] = .ok (Instr.set y (.ofCode z), [])) ∧
  (∀ (p : Fin 4) (lo hi : Byte),
    let op (base : Nat) : Byte := BitVec.ofNat 8 (base + 16 * p.val)
    let cc (base : Nat) : Byte := BitVec.ofNat 8 (base + 8 * p.val)
    decode [op 0x01, lo, hi] = .ok (Instr.ldN16 (.ofCode p.val) (wordOf hi lo), []) ∧
    decode [op 0x03] = .ok (Instr.inc16 (.ofCode p.val), []) ∧
    decode [op 0x0B] = .ok (Instr.dec16 (.ofCode p.val), []) ∧
    decode [op 0x09] = .ok (Instr.addHL (.ofCode p.val), []) ∧
    decode [op 0xC5] = .ok (Instr.push (.ofCode p.val), []) ∧
    decode [op 0xC1] = .ok (Instr.pop (.ofCode p.val), []) ∧
    decode [op 0x02] = .ok (Instr.ldMemA (.ofCode p.val), []) ∧
    decode [op 0x0A] = .ok (Instr.ldAMem (.ofCode p.val), []) ∧
    decode [cc 0x20, lo] = .ok (Instr.jrCc (.ofCode p.val) lo, []) ∧
    decode [cc 0xC2, lo, hi] = .ok (Instr.jpCc (.ofCode p.val) (wordOf hi lo), []) ∧
    decode [cc 0xC4, lo, hi] = .ok (Instr.callCc (.ofCode p.val) (wordOf hi lo), []) ∧
    decode [cc 0xC0] = .ok (Instr.retCc (.ofCode p.val), [])) ∧
  (∀ s : State, s.getOpnd .mHL = s.memRead s.hl ∧ (∀ r : R8, s.getOpnd (.reg r) = s.getR8 r) ∧
    s.getR16 .bc = s.bc ∧ s.getR16 .de = s.de ∧ s.getR16 .hl = s.hl ∧ s.getR16 .sp = s.sp ∧
    s.getStk .bc = s.bc ∧ s.getStk .de = s.de ∧ s.getStk .hl = s.hl ∧ s.getStk .af = s.af ∧
    s.memAddr .bc = s.bc ∧ s.memAddr .de = s.de ∧ s.memAddr .hlInc = s.hl ∧ s.memAddr .hlDec = s.hl ∧
    s.memAddrAfter .bc = s ∧ s.memAddrAfter .de = s ∧
    (s.memAddrAfter .hlInc).hl = s.hl + 1 ∧ (s.memAddrAfter .hlDec).hl = s.hl - 1 ∧
    s.cond .nz = !s.zf ∧ s.cond .z = s.zf ∧ s.cond .nc = !s.cf ∧ s.cond .c = s.cf)

/-- Decoding the bytes of a well-formed instruction gives it back, with every operand, and leaves what follows. -/
def Obligations.DecodeOfEncodeIsTheInstruction : Prop :=
  ∀ (i : Instr) (rest : List Byte), i.wellFormed = true → decode (i.encode ++ rest) = .ok (i, rest)

/-- What the decoder reads is well-formed, and its bytes are the bytes that were read. -/
def Obligations.EncodeOfDecodeIsTheBytes : Prop :=
  ∀ (bytes rest : List Byte) (i : Instr), decode bytes = .ok (i, rest) →
    i.wellFormed = true ∧ i.encode ++ rest = bytes

/-- R300: every first byte decodes, and it alone decides the length: 3 for the 16-bit immediate forms, 2 for the 8-bit
immediate forms, STOP and the prefix, 1 otherwise (R302). Every extended byte decodes to an instruction of its own. -/
def Obligations.EveryByteDecodesWithItsLength : Prop :=
  (∀ (op b1 b2 : Byte) (rest : List Byte),
    let length : Nat :=
      if op ∈ ([0x01, 0x08, 0x11, 0x21, 0x31, 0xC2, 0xC3, 0xC4, 0xCA, 0xCC, 0xCD, 0xD2, 0xD4, 0xDA, 0xDC, 0xEA,
        0xFA] : List Byte) then 3
      else if op ∈ ([0x06, 0x0E, 0x10, 0x16, 0x18, 0x1E, 0x20, 0x26, 0x28, 0x2E, 0x30, 0x36, 0x38, 0x3E, 0xC6, 0xCB,
        0xCE, 0xD6, 0xDE, 0xE0, 0xE6, 0xE8, 0xEE, 0xF0, 0xF6, 0xF8, 0xFE] : List Byte) then 2
      else 1
    ∃ i : Instr, i.encode.length = length ∧
      i.encode = (op :: b1 :: b2 :: rest).take length ∧
      decode (op :: b1 :: b2 :: rest) = .ok (i, (op :: b1 :: b2 :: rest).drop length)) ∧
  (∀ op2 : Byte, decode [0xCB, op2] = .ok (decodeExtended op2, []) ∧ decodeExtended op2 ∉ illegalInstrs)

/-- Words written out from the spec's encodings (R305, R308, R309), of each family of instructions and with each kind of
operand byte, decode to the instructions they stand for. -/
def Obligations.SpecWordsDecode : Prop :=
  decode [0b00111110, 0b00000101] = .ok (.ld_A_n8 0x05, []) ∧
  decode [0b10101111] = .ok (.xor_A, []) ∧
  decode [0b11001011, 0b01111100] = .ok (.bit_7_H, []) ∧
  decode [0b00001000, 0b00000000, 0b11000001] = .ok (.ld_ma16_SP 0xC100, []) ∧
  decode [0b10001011] = .ok (.adc_A_E, []) ∧
  decode [0b00110101] = .ok (.dec_mHL, []) ∧
  decode [0b00101001] = .ok (.add_HL_HL, []) ∧
  decode [0b01110100] = .ok (.ld_mHL_H, []) ∧
  decode [0b01110110] = .ok (.halt, []) ∧
  decode [0b00100000, 0b11111011] = .ok (.jr_NZ_e8 0xFB, []) ∧
  decode [0b11011100, 0b00110100, 0b00010010] = .ok (.call_C_a16 0x1234, []) ∧
  decode [0b11110101] = .ok (.push_AF, []) ∧
  decode [0b11111111] = .ok (.rst_38, []) ∧
  decode [0b11010011] = .ok (.illegal_D3, []) ∧
  decode [0b11001011, 0b00110111] = .ok (.swap_A, []) ∧
  decode [0b00100111] = .ok (.daa, []) ∧
  decode [0b00101111] = .ok (.cpl, []) ∧
  decode [0b00110111] = .ok (.scf, []) ∧
  decode [0b00111111] = .ok (.ccf, []) ∧
  decode [0b11100000, 0b10000000] = .ok (.ldh_ma8_A 0x80, []) ∧
  decode [0b00010000, 0b11111111] = .ok (.stop 0xFF, []) ∧
  decode [0b00010001, 0b00110100, 0b00010010] = .ok (.ld_DE_n16 0x1234, [])

/-! ## 8-bit arithmetic and logic -/

/-- R400, R402 to R407: ADD and ADC, every source. -/
def Obligations.AddAndAdcGiveTheSum : Prop :=
  ∀ (src : AluSrc) (s : State),
    let v := (s.getSrc src).toNat
    let cost : Nat := match src with | .opnd (.reg _) => 4 | .opnd .mHL => 8 | .imm _ => 8
    let sum (cin : Nat) : State := { s with
      a := BitVec.ofNat 8 (s.a.toNat + v + cin)
      f := flagByte (decide ((s.a.toNat + v + cin) % 256 = 0)) false
        (decide (s.a.toNat % 16 + v % 16 + cin > 0xF)) (decide (s.a.toNat + v + cin > 0xFF))
      result := some (.cycles cost) }
    exec (Instr.alu .add src) s = .next (sum 0) ∧
    exec (Instr.alu .adc src) s = .next (sum (if s.cf then 1 else 0)) ∧
    (∀ o : Opnd8, s.getSrc (.opnd o) = s.getOpnd o ∧
      (Instr.alu .add (.opnd o)).encode = [BitVec.ofNat 8 (0x80 + o.code)] ∧
      (Instr.alu .adc (.opnd o)).encode = [BitVec.ofNat 8 (0x88 + o.code)]) ∧
    (∀ n : Byte, s.getSrc (.imm n) = n ∧ (Instr.alu .add (.imm n)).encode = [0xC6, n] ∧
      (Instr.alu .adc (.imm n)).encode = [0xCE, n]) ∧
    (∀ (a b : Byte) (cin : Bool),
      let t := a.toNat + b.toNat + cin.toNat
      add8 a b cin = ⟨BitVec.ofNat 8 t, decide (t % 256 = 0), false,
        decide (a.toNat % 16 + b.toNat % 16 + cin.toNat > 0xF), decide (t > 0xFF)⟩)

/-- R401, R408 to R413, R423 to R425: SUB, SBC and CP, every source. CP leaves A. -/
def Obligations.SubSbcAndCpGiveTheDifference : Prop :=
  ∀ (src : AluSrc) (s : State),
    let a : Int := (s.a.toNat : Int)
    let v : Int := ((s.getSrc src).toNat : Int)
    let cost : Nat := match src with | .opnd (.reg _) => 4 | .opnd .mHL => 8 | .imm _ => 8
    let flagged (cin : Int) : State := { s with
      f := flagByte (decide ((a - v - cin) % 256 = 0)) true (decide (a % 16 - v % 16 - cin < 0))
        (decide (a - v - cin < 0))
      result := some (.cycles cost) }
    exec (Instr.alu .sub src) s = .next { flagged 0 with a := BitVec.ofInt 8 (a - v) } ∧
    exec (Instr.alu .sbc src) s = .next (let cin : Int := if s.cf then 1 else 0
      { flagged cin with a := BitVec.ofInt 8 (a - v - cin) }) ∧
    exec (Instr.alu .cp src) s = .next (flagged 0) ∧
    (∀ o : Opnd8, (Instr.alu .sub (.opnd o)).encode = [BitVec.ofNat 8 (0x90 + o.code)] ∧
      (Instr.alu .sbc (.opnd o)).encode = [BitVec.ofNat 8 (0x98 + o.code)] ∧
      (Instr.alu .cp (.opnd o)).encode = [BitVec.ofNat 8 (0xB8 + o.code)]) ∧
    (∀ n : Byte, (Instr.alu .sub (.imm n)).encode = [0xD6, n] ∧ (Instr.alu .sbc (.imm n)).encode = [0xDE, n] ∧
      (Instr.alu .cp (.imm n)).encode = [0xFE, n]) ∧
    (∀ (x y : Byte) (cin : Bool),
      let t : Int := (x.toNat : Int) - y.toNat - cin.toNat
      sub8 x y cin = ⟨BitVec.ofInt 8 t, decide (t % 256 = 0), true,
        decide ((x.toNat : Int) % 16 - (y.toNat : Int) % 16 - cin.toNat < 0), decide (t < 0)⟩)

/-- R414 to R422: AND, XOR and OR, every source, bit by bit. -/
def Obligations.AndXorOrWorkBitByBit : Prop :=
  ∀ (src : AluSrc) (s : State),
    let v := s.getSrc src
    let cost : Nat := match src with | .opnd (.reg _) => 4 | .opnd .mHL => 8 | .imm _ => 8
    let gives (op : AluOp) (bit : Bool → Bool → Bool) (h : Bool) : Prop :=
      ∃ res : Byte, (∀ j < 8, res.getLsbD j = bit (s.a.getLsbD j) (v.getLsbD j)) ∧
        exec (Instr.alu op src) s = .next { s with
          a := res, f := flagByte (decide (res.toNat = 0)) false h false, result := some (.cycles cost) }
    gives .and (fun x y => x && y) true ∧ gives .xor (fun x y => x != y) false ∧ gives .or (fun x y => x || y) false ∧
    (∀ o : Opnd8, (Instr.alu .and (.opnd o)).encode = [BitVec.ofNat 8 (0xA0 + o.code)] ∧
      (Instr.alu .xor (.opnd o)).encode = [BitVec.ofNat 8 (0xA8 + o.code)] ∧
      (Instr.alu .or (.opnd o)).encode = [BitVec.ofNat 8 (0xB0 + o.code)]) ∧
    (∀ n : Byte, (Instr.alu .and (.imm n)).encode = [0xE6, n] ∧ (Instr.alu .xor (.imm n)).encode = [0xEE, n] ∧
      (Instr.alu .or (.imm n)).encode = [0xF6, n])

/-- R426 to R429: 8-bit INC and DEC of a register or of the byte at HL; C is kept. -/
def Obligations.IncAndDec8ChangeByOne : Prop :=
  ∀ (o : Opnd8) (s : State),
    let v := (s.getOpnd o).toNat
    let cost := byOperand o 4 12
    (∃ t, Puts s t o (BitVec.ofNat 8 (v + 1)) ∧
      exec (Instr.inc8 o) s = .next { t with
        f := flagByte (decide ((v + 1) % 256 = 0)) false (decide (v % 16 = 0xF)) s.cf
        result := some (.cycles cost) }) ∧
    (∃ t, Puts s t o (BitVec.ofInt 8 ((v : Int) - 1)) ∧
      exec (Instr.dec8 o) s = .next { t with
        f := flagByte (decide (v = 1)) true (decide (v % 16 = 0x0)) s.cf
        result := some (.cycles cost) }) ∧
    (Instr.inc8 o).encode = [BitVec.ofNat 8 (0x04 + 8 * o.code)] ∧
    (Instr.dec8 o).encode = [BitVec.ofNat 8 (0x05 + 8 * o.code)]

/-- R430: the laws of the family. -/
def Obligations.Alu8Laws : Prop :=
  (∀ (s : State) (x : Byte), ∃ t, exec .xor_A (s.setR8 .a x) = .next t ∧ t.a = 0 ∧ t.zf = true) ∧
  (∀ (s : State) (o : Opnd8), s.mem.wf = true → ∃ t u, exec (Instr.inc8 o) s = .next t ∧
    exec (Instr.dec8 o) t = .next u ∧ u.getOpnd o = s.getOpnd o ∧ t.cf = s.cf ∧ u.cf = s.cf) ∧
  (∀ a b : Byte, (sub8 a b false).c = decide (a.toNat < b.toNat)) ∧
  (∀ a b : Byte, (add8 a b false).res = (sub8 a (BitVec.ofNat 8 ((256 - b.toNat) % 256)) false).res) ∧
  (∀ (s : State) (op : AluOp) (src : AluSrc) (o : Opnd8),
    (∃ t, exec (Instr.alu op src) s = .next t ∧ t.err = s.err ∧ t.run = s.run) ∧
    (∃ t, exec (Instr.inc8 o) s = .next t ∧ t.err = s.err ∧ t.run = s.run) ∧
    (∃ t, exec (Instr.dec8 o) s = .next t ∧ t.err = s.err ∧ t.run = s.run))

/-! ## 16-bit arithmetic -/

/-- R450, R451: INC rr and DEC rr modulo 2^16, no flag. -/
def Obligations.IncAndDec16ChangeByOne : Prop :=
  ∀ (r : R16) (s : State),
    let v := (s.getR16 r).toNat
    exec (Instr.inc16 r) s = .next { s.setR16 r (BitVec.ofNat 16 (v + 1)) with result := some (.cycles 8) } ∧
    exec (Instr.dec16 r) s =
      .next { s.setR16 r (BitVec.ofInt 16 ((v : Int) - 1)) with result := some (.cycles 8) } ∧
    (s.setR16 r (BitVec.ofNat 16 (v + 1))).f = s.f ∧
    (Instr.inc16 r).encode = [BitVec.ofNat 8 (0x03 + 16 * r.code)] ∧
    (Instr.dec16 r).encode = [BitVec.ofNat 8 (0x0B + 16 * r.code)]

/-- R454: ADD HL,rr; Z kept, H from bit 11, C from bit 15. -/
def Obligations.AddHlGivesTheSum : Prop :=
  ∀ (r : R16) (s : State),
    let t := s.hl.toNat + (s.getR16 r).toNat
    exec (Instr.addHL r) s = .next { s with
      h := BitVec.ofNat 8 (t / 256)
      l := BitVec.ofNat 8 t
      f := flagByte s.zf false (decide (s.hl.toNat % 4096 + (s.getR16 r).toNat % 4096 > 0x0FFF)) (decide (t > 0xFFFF))
      result := some (.cycles 8) } ∧
    (Instr.addHL r).encode = [BitVec.ofNat 8 (0x09 + 16 * r.code)]

/-- R452, R453, R455: ADD SP,e8 and LD HL,SP+e8: a signed displacement, the flags from the unsigned low-byte sum. -/
def Obligations.SpPlusDisplacement : Prop :=
  ∀ (e : Byte) (s : State),
    let res : Int := (s.sp.toNat : Int) + e.toInt
    let f := flagByte false false (decide (s.sp.toNat % 16 + e.toNat % 16 > 0x0F))
      (decide (s.sp.toNat % 256 + e.toNat > 0xFF))
    exec (.add_SP_e8 e) s = .next { s with sp := BitVec.ofInt 16 res, f := f, result := some (.cycles 16) } ∧
    exec (.ld_HL_SPe8 e) s = .next { s with
      h := BitVec.ofInt 8 (res / 256), l := BitVec.ofInt 8 res, f := f, result := some (.cycles 12) } ∧
    (Instr.add_SP_e8 e).encode = [0xE8, e] ∧ (Instr.ld_HL_SPe8 e).encode = [0xF8, e] ∧
    spe8 s.sp e = (BitVec.ofInt 16 res, decide (s.sp.toNat % 16 + e.toNat % 16 > 0x0F),
      decide (s.sp.toNat % 256 + e.toNat > 0xFF))

/-- R456: the laws of the family. -/
def Obligations.Alu16Laws : Prop :=
  ∀ (s : State) (r : R16) (e : Byte),
    (∃ t u, exec (Instr.inc16 r) s = .next t ∧ exec (Instr.dec16 r) t = .next u ∧
      u.getR16 r = s.getR16 r ∧ t.f = s.f ∧ u.f = s.f ∧ u = { s with result := u.result }) ∧
    (∃ t, exec (Instr.addHL r) s = .next t ∧ t.zf = s.zf ∧ t.run = s.run ∧ t.err = s.err) ∧
    (∃ t, exec (.add_SP_e8 e) s = .next t ∧ t.run = s.run ∧ t.err = s.err) ∧
    (∃ t, exec (.ld_HL_SPe8 e) s = .next t ∧ t.run = s.run ∧ t.err = s.err)

/-! ## Rotates, shifts and bits -/

/-- R500 to R503: the rotates of A; Z is cleared whatever the result. -/
def Obligations.RotatesOfA : Prop :=
  ∀ s : State,
    let a := s.a.toNat
    let cin : Nat := if s.cf then 1 else 0
    let gives (res : Nat) (c : Bool) : State := { s with
      a := BitVec.ofNat 8 res, f := flagByte false false false c, result := some (.cycles 4) }
    exec .rlca s = .next (gives (2 * a + a / 128) (decide (a ≥ 128))) ∧
    exec .rrca s = .next (gives (a / 2 + 128 * (a % 2)) (decide (a % 2 = 1))) ∧
    exec .rla s = .next (gives (2 * a + cin) (decide (a ≥ 128))) ∧
    exec .rra s = .next (gives (a / 2 + 128 * cin) (decide (a % 2 = 1))) ∧
    [Instr.rlca, .rrca, .rla, .rra].map Instr.encode = [[0x07], [0x0F], [0x17], [0x1F]]

/-- R504 to R512: RLC, RRC, RL and RR of a register or of the byte at HL. -/
def Obligations.ExtendedRotates : Prop :=
  ∀ (o : Opnd8) (s : State),
    let v := (s.getOpnd o).toNat
    let cin : Nat := if s.cf then 1 else 0
    let gives (op : RotOp) (base res : Nat) (c : Bool) : Prop :=
      (∃ t, Puts s t o (BitVec.ofNat 8 res) ∧ exec (Instr.rot op o) s = .next { t with
        f := flagByte (decide (res % 256 = 0)) false false c
        result := some (.cycles (s.extendedCost (byOperand o 8 16))) }) ∧
      (Instr.rot op o).encode = [0xCB, BitVec.ofNat 8 (base + o.code)]
    gives .rlc 0x00 (2 * v + v / 128) (decide (v ≥ 128)) ∧
    gives .rrc 0x08 (v / 2 + 128 * (v % 2)) (decide (v % 2 = 1)) ∧
    gives .rl 0x10 (2 * v + cin) (decide (v ≥ 128)) ∧
    gives .rr 0x18 (v / 2 + 128 * cin) (decide (v % 2 = 1))

/-- R513 to R520: SLA, SRA, SWAP and SRL of a register or of the byte at HL. -/
def Obligations.ExtendedShiftsAndSwap : Prop :=
  ∀ (o : Opnd8) (s : State),
    let v := (s.getOpnd o).toNat
    let gives (op : RotOp) (base res : Nat) (c : Bool) : Prop :=
      (∃ t, Puts s t o (BitVec.ofNat 8 res) ∧ exec (Instr.rot op o) s = .next { t with
        f := flagByte (decide (res % 256 = 0)) false false c
        result := some (.cycles (s.extendedCost (byOperand o 8 16))) }) ∧
      (Instr.rot op o).encode = [0xCB, BitVec.ofNat 8 (base + o.code)]
    gives .sla 0x20 (2 * v) (decide (v ≥ 128)) ∧
    gives .sra 0x28 (v / 2 + 128 * (v / 128)) (decide (v % 2 = 1)) ∧
    gives .swap 0x30 (v % 16 * 16 + v / 16) false ∧
    gives .srl 0x38 (v / 2) (decide (v % 2 = 1))

/-- R521, R522: BIT writes Z with the inverse of the tested bit; the operand and C are kept. -/
def Obligations.BitTestsOneBit : Prop :=
  ∀ (b : Fin 8) (o : Opnd8) (s : State),
    exec (Instr.bit b o) s = .next { s with
      f := flagByte (decide ((s.getOpnd o).toNat / 2 ^ b.val % 2 = 0)) false true s.cf
      result := some (.cycles (s.extendedCost (byOperand o 8 12))) } ∧
    (Instr.bit b o).encode = [0xCB, BitVec.ofNat 8 (0x40 + 8 * b.val + o.code)]

/-- R523 to R526: RES and SET change one bit of their operand and no flag. -/
def Obligations.ResAndSetChangeOneBit : Prop :=
  ∀ (b : Fin 8) (o : Opnd8) (s : State),
    let gives (i : Instr) (value : Bool) : Prop :=
      ∃ (t : State) (res : Byte),
        (∀ j < 8, res.getLsbD j = if j = b.val then value else (s.getOpnd o).getLsbD j) ∧
        Puts s t o res ∧
        exec i s = .next { t with result := some (.cycles (s.extendedCost (byOperand o 8 16))) }
    gives (Instr.res b o) false ∧ gives (Instr.set b o) true ∧
    (Instr.res b o).encode = [0xCB, BitVec.ofNat 8 (0x80 + 8 * b.val + o.code)] ∧
    (Instr.set b o).encode = [0xCB, BitVec.ofNat 8 (0xC0 + 8 * b.val + o.code)]

/-- R527: the laws of the family. -/
def Obligations.RotateAndBitLaws : Prop :=
  (∀ (s : State) (o : Opnd8), s.mem.wf = true →
    (∃ t u, exec (Instr.rot .rlc o) s = .next t ∧ exec (Instr.rot .rrc o) t = .next u ∧
      u.getOpnd o = s.getOpnd o) ∧
    (∃ t u, exec (Instr.rot .rl o) s = .next t ∧ exec (Instr.rot .rr o) t = .next u ∧
      u.getOpnd o = s.getOpnd o ∧ u.cf = s.cf) ∧
    (∃ t u, exec (Instr.rot .swap o) s = .next t ∧ exec (Instr.rot .swap o) t = .next u ∧
      u.getOpnd o = s.getOpnd o) ∧
    ∀ b : Fin 8,
      (∃ t u, exec (Instr.res b o) s = .next t ∧ exec (Instr.bit b o) t = .next u ∧ u.zf = true) ∧
      (∃ t u, exec (Instr.set b o) s = .next t ∧ exec (Instr.bit b o) t = .next u ∧ u.zf = false)) ∧
  (∀ (s : State) (op : RotOp) (b : Fin 8) (o : Opnd8) (i : Instr),
    i ∈ [Instr.rlca, .rrca, .rla, .rra, Instr.rot op o, Instr.bit b o, Instr.res b o, Instr.set b o] →
    ∃ t, exec i s = .next t ∧ t.run = s.run ∧ t.err = s.err)

/-! ## Decimal adjust and flag operations -/

/-- R550: DAA. -/
def Obligations.DaaAdjusts : Prop :=
  ∀ s : State,
    let a : Int := (s.a.toNat : Int)
    let high : Int := if s.cf = true ∨ (s.nf = false ∧ s.a.toNat > 0x99) then 0x60 else 0
    let low : Int := if s.hf = true ∨ (s.nf = false ∧ s.a.toNat % 16 > 9) then 0x06 else 0
    let res : Int := if s.nf then a - high - low else a + high + low
    exec .daa s = .next { s with
      a := BitVec.ofInt 8 res
      f := flagByte (decide (res % 256 = 0)) s.nf false (s.cf || (!s.nf && decide (s.a.toNat > 0x99)))
      result := some (.cycles 4) } ∧
    Instr.daa.encode = [0x27]

/-- DAA after an addition or a subtraction of two-digit decimal numbers gives the two digits of the decimal result, and
C is the decimal carry or borrow. -/
def Obligations.DaaGivesTheDecimalResult : Prop :=
  ∀ (s : State) (src : AluSrc) (x y : Nat), x < 100 → y < 100 → s.a = bcd x → s.getSrc src = bcd y →
    let cin : Nat := if s.cf then 1 else 0
    let gives (op : AluOp) (n : Nat) (c : Bool) : Prop :=
      ∃ t u, exec (Instr.alu op src) s = .next t ∧ exec .daa t = .next u ∧ u.a = bcd n ∧ u.cf = c
    gives .add ((x + y) % 100) (decide (x + y ≥ 100)) ∧
    gives .adc ((x + y + cin) % 100) (decide (x + y + cin ≥ 100)) ∧
    gives .sub ((100 + x - y) % 100) (decide (x < y)) ∧
    gives .sbc ((100 + x - y - cin) % 100) (decide (x < y + cin))

/-- R551 to R553: CPL, SCF and CCF. -/
def Obligations.ComplementAndCarryFlag : Prop :=
  ∀ s : State,
    exec .cpl s = .next { s with
      a := BitVec.ofNat 8 (255 - s.a.toNat), f := flagByte s.zf true true s.cf, result := some (.cycles 4) } ∧
    exec .scf s = .next { s with f := flagByte s.zf false false true, result := some (.cycles 4) } ∧
    exec .ccf s = .next { s with f := flagByte s.zf false false (!s.cf), result := some (.cycles 4) } ∧
    [Instr.cpl, .scf, .ccf].map Instr.encode = [[0x2F], [0x37], [0x3F]]

/-! ## Loads -/

/-- R600 to R604: LD between registers, the byte at HL and an immediate. The form LD (HL),(HL) is HALT. -/
def Obligations.LoadsMoveAByte : Prop :=
  ∀ s : State,
    (∀ y z : Opnd8, ¬(y = .mHL ∧ z = .mHL) →
      (∃ t, Puts s t y (s.getOpnd z) ∧ exec (Instr.ld y z) s = .next { t with
        result := some (.cycles (byOperand y (byOperand z 4 8) 8)) }) ∧
      (Instr.ld y z).encode = [BitVec.ofNat 8 (0x40 + 8 * y.code + z.code)]) ∧
    (∀ (y : Opnd8) (n : Byte),
      (∃ t, Puts s t y n ∧ exec (Instr.ldN8 y n) s = .next { t with
        result := some (.cycles (byOperand y 8 12)) }) ∧
      (Instr.ldN8 y n).encode = [BitVec.ofNat 8 (0x06 + 8 * y.code), n])

/-- R605, R606, R609, R610: LD A,(BC), (DE), (HL+) and (HL-). -/
def Obligations.LoadAThroughAPair : Prop :=
  ∀ s : State,
    exec .ld_A_mBC s = .next { s with a := s.memRead s.bc, result := some (.cycles 8) } ∧
    exec .ld_A_mDE s = .next { s with a := s.memRead s.de, result := some (.cycles 8) } ∧
    exec .ld_A_mHLi s = .next { s with
      a := s.memRead s.hl, h := BitVec.ofNat 8 ((s.hl.toNat + 1) / 256), l := BitVec.ofNat 8 (s.hl.toNat + 1)
      result := some (.cycles 8) } ∧
    exec .ld_A_mHLd s = .next { s with
      a := s.memRead s.hl, h := BitVec.ofNat 8 ((s.hl.toNat + 65535) / 256), l := BitVec.ofNat 8 (s.hl.toNat + 65535)
      result := some (.cycles 8) } ∧
    [Instr.ld_A_mBC, .ld_A_mDE, .ld_A_mHLi, .ld_A_mHLd].map Instr.encode = [[0x0A], [0x1A], [0x2A], [0x3A]]

/-- R607, R608, R611, R612: LD (BC), (DE), (HL+) and (HL-),A. -/
def Obligations.StoreAThroughAPair : Prop :=
  ∀ s : State,
    (∃ t, StoresByte s t s.bc s.a ∧
      exec .ld_mBC_A s = .next { s with mem := t.mem, result := some (.cycles 8) }) ∧
    (∃ t, StoresByte s t s.de s.a ∧
      exec .ld_mDE_A s = .next { s with mem := t.mem, result := some (.cycles 8) }) ∧
    (∃ t, StoresByte s t s.hl s.a ∧ exec .ld_mHLi_A s = .next { s with
      mem := t.mem, h := BitVec.ofNat 8 ((s.hl.toNat + 1) / 256), l := BitVec.ofNat 8 (s.hl.toNat + 1)
      result := some (.cycles 8) }) ∧
    (∃ t, StoresByte s t s.hl s.a ∧ exec .ld_mHLd_A s = .next { s with
      mem := t.mem, h := BitVec.ofNat 8 ((s.hl.toNat + 65535) / 256), l := BitVec.ofNat 8 (s.hl.toNat + 65535)
      result := some (.cycles 8) }) ∧
    [Instr.ld_mBC_A, .ld_mDE_A, .ld_mHLi_A, .ld_mHLd_A].map Instr.encode = [[0x02], [0x12], [0x22], [0x32]]

/-- R614 to R619: the high-page and absolute loads and stores of A. -/
def Obligations.HighPageAndAbsoluteLoads : Prop :=
  ∀ (s : State) (n : Byte) (w : Word),
    let page (x : Byte) : Word := BitVec.ofNat 16 (0xFF00 + x.toNat)
    let loads (i : Instr) (addr : Word) (cost : Nat) : Prop :=
      exec i s = .next { s with a := s.memRead addr, result := some (.cycles cost) }
    let stores (i : Instr) (addr : Word) (cost : Nat) : Prop :=
      ∃ t, StoresByte s t addr s.a ∧ exec i s = .next { s with mem := t.mem, result := some (.cycles cost) }
    stores (.ldh_ma8_A n) (page n) 12 ∧ loads (.ldh_A_ma8 n) (page n) 12 ∧
    stores .ld_mC_A (page s.c) 8 ∧ loads .ld_A_mC (page s.c) 8 ∧
    loads (.ld_A_ma16 w) w 16 ∧ stores (.ld_ma16_A w) w 16 ∧
    [Instr.ldh_ma8_A n, .ldh_A_ma8 n, .ld_mC_A, .ld_A_mC].map Instr.encode = [[0xE0, n], [0xF0, n], [0xE2], [0xF2]] ∧
    [Instr.ld_A_ma16 w, .ld_ma16_A w].map Instr.encode =
      [[0xFA, BitVec.ofNat 8 (w.toNat % 256), BitVec.ofNat 8 (w.toNat / 256)],
       [0xEA, BitVec.ofNat 8 (w.toNat % 256), BitVec.ofNat 8 (w.toNat / 256)]]

/-- R620 to R622: the 16-bit loads. -/
def Obligations.WordLoads : Prop :=
  ∀ (s : State) (r : R16) (n : Word),
    let lo := BitVec.ofNat 8 (n.toNat % 256)
    let hi := BitVec.ofNat 8 (n.toNat / 256)
    exec (Instr.ldN16 r n) s = .next { s.setR16 r n with result := some (.cycles 12) } ∧
    (s.setR16 r n).getR16 r = n ∧
    (Instr.ldN16 r n).encode = [BitVec.ofNat 8 (0x01 + 16 * r.code), lo, hi] ∧
    (∃ t, StoresWord s t n s.sp ∧
      exec (.ld_ma16_SP n) s = .next { s with mem := t.mem, result := some (.cycles 20) }) ∧
    (Instr.ld_ma16_SP n).encode = [0x08, lo, hi] ∧
    exec .ld_SP_HL s = .next { s with sp := s.hl, result := some (.cycles 8) } ∧
    Instr.ld_SP_HL.encode = [0xF9]

/-! ## Control transfer -/

/-- R650, R651: JR and JR cc from the address after the displacement byte. -/
def Obligations.RelativeJumps : Prop :=
  ∀ (s : State) (cc : Cond) (e : Byte),
    let target := BitVec.ofInt 16 ((s.pc.toNat : Int) + e.toInt)
    exec (.jr_e8 e) s = .next { s with pc := target, result := some (.cycles 12) } ∧
    exec (Instr.jrCc cc e) s = .next (if s.cond cc then { s with pc := target, result := some (.cycles 12) }
      else { s with result := some (.cycles 8) }) ∧
    (Instr.jr_e8 e).encode = [0x18, e] ∧ (Instr.jrCc cc e).encode = [BitVec.ofNat 8 (0x20 + 8 * cc.code), e]

/-- R661: a relative jump is undone by the opposite displacement, two different PCs never meet, and two executed JR land
where the law says. -/
def Obligations.RelativeJumpLaw : Prop :=
  (∀ (s : State) (d : Byte), (s.jumpRelative d).pc = BitVec.ofInt 16 ((s.pc.toNat : Int) + d.toInt)) ∧
  (∀ (s : State) (d : Byte), d ≠ 0x80 → (s.jumpRelative d).jumpRelative (-d) = s) ∧
  (∀ (s t : State) (d : Byte), (s.jumpRelative d).pc = (t.jumpRelative d).pc → s.pc = t.pc) ∧
  (∀ (s : State) (d : Byte), d ≠ 0x80 →
    ∃ t u, exec (.jr_e8 d) { s with pc := s.pc + 2 } = .next t ∧
      exec (.jr_e8 (-d)) { t with pc := t.pc + 2 } = .next u ∧ u.pc = s.pc + 4)

/-- R652 to R654: JP, JP cc and JP HL. -/
def Obligations.AbsoluteJumps : Prop :=
  ∀ (s : State) (cc : Cond) (a : Word),
    let lo := BitVec.ofNat 8 (a.toNat % 256)
    let hi := BitVec.ofNat 8 (a.toNat / 256)
    exec (.jp_a16 a) s = .next { s with pc := a, result := some (.cycles 16) } ∧
    exec (Instr.jpCc cc a) s = .next (if s.cond cc then { s with pc := a, result := some (.cycles 16) }
      else { s with result := some (.cycles 12) }) ∧
    exec .jp_HL s = .next { s with pc := s.hl, result := some (.cycles 4) } ∧
    (Instr.jp_a16 a).encode = [0xC3, lo, hi] ∧
    (Instr.jpCc cc a).encode = [BitVec.ofNat 8 (0xC2 + 8 * cc.code), lo, hi] ∧ Instr.jp_HL.encode = [0xE9]

/-- R655, R656, R660: CALL, CALL cc and RST push the address after the instruction, then jump. -/
def Obligations.CallsPushTheReturnAddress : Prop :=
  ∀ (s : State) (cc : Cond) (a : Word) (y : Fin 8),
    let lo := BitVec.ofNat 8 (a.toNat % 256)
    let hi := BitVec.ofNat 8 (a.toNat / 256)
    let calls (i : Instr) (target : Word) (cost : Nat) : Prop :=
      ∃ t, Pushes s t s.pc ∧ exec i s = .next { t with pc := target, result := some (.cycles cost) }
    calls (.call_a16 a) a 24 ∧
    (s.cond cc = true → calls (Instr.callCc cc a) a 24) ∧
    (s.cond cc = false → exec (Instr.callCc cc a) s = .next { s with result := some (.cycles 12) }) ∧
    calls (Instr.rst y) (BitVec.ofNat 16 (8 * y.val)) 16 ∧
    (Instr.call_a16 a).encode = [0xCD, lo, hi] ∧
    (Instr.callCc cc a).encode = [BitVec.ofNat 8 (0xC4 + 8 * cc.code), lo, hi] ∧
    (Instr.rst y).encode = [BitVec.ofNat 8 (0xC7 + 8 * y.val)]

/-- R657 to R659: RET, RET cc and RETI. -/
def Obligations.ReturnsPopThePc : Prop :=
  ∀ (s : State) (cc : Cond),
    exec .ret s = .next { s with pc := s.top, sp := s.sp + 2, result := some (.cycles 16) } ∧
    exec (Instr.retCc cc) s =
      .next (if s.cond cc then { s with pc := s.top, sp := s.sp + 2, result := some (.cycles 20) }
        else { s with result := some (.cycles 8) }) ∧
    exec .reti s = .next { s with pc := s.top, sp := s.sp + 2, ime := true, result := some (.cycles 16) } ∧
    Instr.ret.encode = [0xC9] ∧ (Instr.retCc cc).encode = [BitVec.ofNat 8 (0xC0 + 8 * cc.code)] ∧
    Instr.reti.encode = [0xD9]

/-! ## Stack -/

/-- R700, R702: PUSH. -/
def Obligations.PushStoresThePair : Prop :=
  ∀ (s : State) (r : R16Stk),
    (∃ t, Pushes s t (s.getStk r) ∧ exec (Instr.push r) s = .next { t with result := some (.cycles 16) }) ∧
    (Instr.push r).encode = [BitVec.ofNat 8 (0xC5 + 16 * r.code)]

/-- R701, R703, R704: POP; POP AF drops the low nibble of the popped low byte. -/
def Obligations.PopLoadsThePair : Prop :=
  ∀ s : State,
    let lo := s.memRead s.sp
    let hi := s.memRead (s.sp + 1)
    let t : State := { s with sp := s.sp + 2, result := some (.cycles 12) }
    exec .pop_BC s = .next { t with b := hi, c := lo } ∧
    exec .pop_DE s = .next { t with d := hi, e := lo } ∧
    exec .pop_HL s = .next { t with h := hi, l := lo } ∧
    exec .pop_AF s = .next { t with a := hi, f := lo &&& 0xF0 } ∧
    [Instr.pop_BC, .pop_DE, .pop_HL, .pop_AF].map Instr.encode = [[0xC1], [0xD1], [0xE1], [0xF1]]

/-- R705: a pop undoes a push, for every SP; PUSH BC, POP AF moves BC into AF. -/
def Obligations.PopUndoesPush : Prop :=
  ∀ (s : State) (r : R16Stk), s.mem.wf = true → s.f &&& 0x0F = 0 →
    (∃ t u, exec (Instr.push r) s = .next t ∧ exec (Instr.pop r) t = .next u ∧
      u = { s with mem := t.mem, result := some (.cycles 12) }) ∧
    (∃ t u, exec .push_BC s = .next t ∧ exec .pop_AF t = .next u ∧ u.af = s.bc &&& 0xFFF0 ∧ u.sp = s.sp)

/-! ## System instructions -/

/-- NOP does nothing (R750); the prefix executes the extended entry its next byte selects, and is never an instruction on
its own (R751). That the prefix row's term is not well-formed, and is another name of the extended entry the decoder
answers, is the model's reading (log 9, DEDUCED). -/
def Obligations.NopAndThePrefix : Prop :=
  (∀ s : State, exec .nop s = .next { s with result := some (.cycles 4) }) ∧ Instr.nop.encode = [0x00] ∧
  ∀ (op2 : Byte) (rest : List Byte) (s : State),
    (∃ t, exec (.prefixCB op2) s = .next t ∧ exec (decodeExtended op2) s = .next t ∧
      t.mode = s.mode ∧ t.pc = s.pc ∧ t.run = s.run ∧ t.err = s.err) ∧
    decode (0xCB :: op2 :: rest) = .ok (decodeExtended op2, rest) ∧
    (decodeExtended op2).encode = [0xCB, op2] ∧
    decode [0xCB] = .error .truncated ∧ (Instr.prefixCB op2).wellFormed = false

/-- R307, R752, R801: exactly eleven first bytes are illegal, each an instruction of one byte; each records its byte and
its address, enters HaltedError and reports the error; nothing else changes but the EI latch, and nothing else enters
HaltedError. -/
def Obligations.IllegalOpcodesRaise : Prop :=
  illegalInstrs.map Instr.encode = illegalBytes.map (fun op => [op]) ∧
  (∀ (op b1 b2 : Byte) (i : Instr) (rest : List Byte), decode [op, b1, b2] = .ok (i, rest) →
    (i ∈ illegalInstrs ↔ op ∈ illegalBytes)) ∧
  (∀ (s : State) (op : Byte) (i : Instr),
    (op, i) ∈ illegalBytes.zip illegalInstrs →
    exec i s = .next { s with
      run := .haltedError, err := some ⟨op, s.pc - 1⟩, apply := false, result := some (.error ⟨op, s.pc - 1⟩) }) ∧
  (∀ (s t : State) (op : Byte), t = s.takeInput → t.Executes → t.memRead t.pc = op →
    op ∈ illegalBytes →
    step s = .next { t with
      run := .haltedError, err := some ⟨op, t.pc⟩, pc := t.pc + 1, eiPending := false, apply := false
      result := some (.error ⟨op, t.pc⟩) }) ∧
  (∀ (s t : State), step s = .next t → s.run ≠ .haltedError → t.run = .haltedError →
    s.takeInput.memRead s.pc ∈ illegalBytes)

/-- HALT and STOP, the sleeping step, and the wake by the WAKE input (R753, R754, R901). That a step's input is the first
entry of a list, which the step uses up, is the model's choice (log 4, DESIGN CHOICE). -/
def Obligations.HaltAndStopSleepUntilWoken : Prop :=
  (∀ (s : State) (x : Byte),
    exec .halt s = .next { s with run := .halted, result := some (.cycles 4) } ∧
    exec (.stop x) s = .next { s with run := .stopped, result := some (.cycles 4) } ∧
    Instr.halt.encode = [0x76] ∧ (Instr.stop x).encode = [0x10, x]) ∧
  (∀ (s t : State), t = s.takeInput → s.run = .halted ∨ s.run = .stopped →
    (s.run = .halted → t.params.irqModel = .gbStandard →
      (t.memRead 0xFFFF &&& t.memRead 0xFF0F &&& 0x1F) = 0) →
    step s = .next { t with
      run := if s.input.wake then .running else s.run, result := some (.cycles 4) }) ∧
  (∀ s : State, s.input.ifBits = none ∨ s.params.irqModel = .absent →
    s.takeInput = { s with inputs := s.inputs.tail }) ∧
  (∀ s : State, s.Inv → s.run = .halted ∨ s.run = .stopped → s.eiPending = false)

/-- DI, EI and the delay of EI, in every executing step; a dispatch step clears the latch (R756, R757, R902). That the
step-local copy of the latch is a field, false after every executing step, is the model's choice (log 7, DESIGN CHOICE). -/
def Obligations.EiIsDelayedByOneInstruction : Prop :=
  (∀ s : State, exec .di s = .next { s with ime := false, apply := false, result := some (.cycles 4) } ∧
    exec .ei s = .next { s with eiPending := true, result := some (.cycles 4) } ∧
    Instr.di.encode = [0xF3] ∧ Instr.ei.encode = [0xFB]) ∧
  (∀ (s t : State) (i : Instr) (rest : List Byte), t = s.takeInput → t.Executes → decode t.code = .ok (i, rest) →
    ∃ u, step s = .next u ∧ u.apply = false ∧ u.eiPending = decide (i = .ei) ∧
      u.ime = (if i = .di then false else if i = .reti then true
        else if i ∈ illegalInstrs then s.ime else (s.ime || s.eiPending))) ∧
  (∀ s t : State, t = s.takeInput → t.Dispatches → t.run = .running ∨ t.run = .halted →
    ∃ u, step s = .next u ∧ u.eiPending = false ∧ u.ime = false)

/-! ## The step -/

/-- The step executes the instruction the bytes at PC decode to, with PC past its bytes and the EI latch taken, and
ends by applying the latch (R301, R900). -/
def Obligations.StepRunsTheDecodedInstruction : Prop :=
  ∀ (s t : State) (i : Instr) (rest : List Byte), t = s.takeInput → t.Executes → decode t.code = .ok (i, rest) →
    ∃ u, exec i { t with
        pc := t.pc + BitVec.ofNat 16 i.encode.length, apply := t.eiPending, eiPending := false } = .next u ∧
      step s = .next { u with ime := u.ime || u.apply, apply := false }

/-- R903: from a state with the invariant a step always answers a next state, whose result is a cost of 4 to 24 in
multiples of 4 or the error record. -/
def Obligations.EveryStepReturnsCyclesOrError : Prop :=
  ∀ s : State, s.Inv → ∃ t, step s = .next t ∧
    ((t.run ≠ .haltedError ∧ ∃ n ∈ [4, 8, 12, 16, 20, 24], t.result = some (.cycles n)) ∨
     (t.run = .haltedError ∧ ∃ e, t.err = some e ∧ t.result = some (.error e)))

/-- The invariant is kept by every step: canonical memory, the masked low nibble of F, primary mode, the error record,
the EI latch. -/
def Obligations.EveryStepKeepsTheInvariant : Prop :=
  ∀ s t : State, s.Inv → step s = .next t → t.Inv

/-- HaltedError is terminal (R805): every step from it returns the recorded error and changes nothing but what the host's
input changes, and so do any number of steps, which leave every byte but IF as it was. That each step uses up one entry
of the list of inputs, and writes the value for IF it gives under gb_standard, is the model's choice (log 4, DESIGN
CHOICE). -/
def Obligations.HaltedErrorIsTerminal : Prop :=
  ∀ (s : State) (e : IllegalOpcode), s.run = .haltedError → s.err = some e →
    step s = .next { s.takeInput with result := some (.error e) } ∧
    ∀ n : Nat, ∃ t, Steps (n + 1) s t ∧
      t = { s with mem := t.mem, inputs := s.inputs.drop (n + 1), result := some (.error e) } ∧
      (s.mem.wf = true → ∀ x : Word, x ≠ 0xFF0F → t.memRead x = s.memRead x) ∧
      ((∀ x ∈ s.inputs, x.ifBits = none) ∨ s.params.irqModel = .absent → t.mem = s.mem)

/-- R808: the interrupt dispatch and the wake by a pending interrupt, under IRQ_MODEL = gb_standard. -/
def Obligations.InterruptsAreDispatched : Prop :=
  (∀ (s t : State) (i : Nat), t = s.takeInput → t.Dispatches → t.run = .running ∨ t.run = .halted → i < 5 →
    (t.memRead 0xFFFF &&& t.memRead 0xFF0F).getLsbD i = true →
    (∀ j < i, (t.memRead 0xFFFF &&& t.memRead 0xFF0F).getLsbD j = false) →
    ∃ u, step s = .next u ∧
      u = { t with
        run := .running, ime := false, eiPending := false, sp := t.sp - 2, pc := BitVec.ofNat 16 (0x40 + 8 * i)
        mem := u.mem, result := some (.cycles 20) } ∧
      (t.mem.wf = true → ∀ x : Word, u.memRead x =
        if x = t.sp - 2 then BitVec.ofNat 8 (t.pc.toNat % 256)
        else if x = t.sp - 1 then BitVec.ofNat 8 (t.pc.toNat / 256)
        else if x = 0xFF0F then t.memRead 0xFF0F &&& ~~~(BitVec.ofNat 8 (2 ^ i))
        else t.memRead x)) ∧
  (∀ s t : State, t = s.takeInput → t.params.irqModel = .gbStandard →
    (t.memRead 0xFFFF &&& t.memRead 0xFF0F &&& 0x1F) ≠ 0 → t.run = .halted → t.ime = false →
    step s = .next { t with run := .running, result := some (.cycles 4) }) ∧
  (∀ s t : State, t = s.takeInput → t.run = .stopped → s.input.wake = false →
    step s = .next { t with result := some (.cycles 4) })

/-- R807: with IRQ_MODEL = absent IME is read by nothing: two machines that differ in IME alone step to machines that
differ in IME at most, and the host's value for IF is not looked at. -/
def Obligations.WithoutInterruptsImeIsReadByNothing : Prop :=
  ∀ (s : State) (b : Bool), s.params.irqModel = .absent →
    (∃ (t : State) (b' : Bool), step s = .next t ∧ step { s with ime := b } = .next { t with ime := b' }) ∧
    (∀ (wake : Bool) (v : Option (BitVec 5)) (rest : List HostInput),
      step { s with inputs := ⟨wake, v⟩ :: rest } = step { s with inputs := ⟨wake, none⟩ :: rest })

/-- The host's input reaches the core through WAKE and bits 4 to 0 of IF alone (log 4, R819). -/
def Obligations.HostInputReachesOnlyIf : Prop :=
  ∀ s : State,
    s.takeInput = { s with inputs := s.inputs.tail, mem := s.takeInput.mem } ∧
    (s.mem.wf = true → ∀ x : Word, s.takeInput.memRead x =
      if x = 0xFF0F ∧ s.params.irqModel = .gbStandard then
        (match s.input.ifBits with
          | some v => BitVec.ofNat 8 ((s.memRead x).toNat / 32 * 32 + v.toNat)
          | none => s.memRead x)
      else s.memRead x)

/-- The frame budget, the bound on a frame's steps, the bounds of its accumulator, and the frame of NOPs (R951, R952). The
loop as a function with a bound on its steps is the model's (log 12, DEDUCED): a larger bound answers the same. -/
def Obligations.FramesEndWithinTheirBounds : Prop :=
  Config.frameBudget = 69905 ∧
  (∀ s : State, s.Inv → ∃ (n : Nat) (t : State), n ≤ 17477 ∧ Steps n s t ∧
    ((∃ acc, runFrame s = (.frameDone acc, t) ∧ 69905 ≤ acc ∧ acc ≤ 69928 ∧ t.run ≠ .haltedError) ∨
     (∃ e acc, runFrame s = (.frameError e acc, t) ∧ acc < 69905 ∧ t.run = .haltedError ∧ t.err = some e))) ∧
  (∀ s : State, s.Inv → ∀ fuel ≥ 17477, runFrameFrom fuel 0 s = runFrame s) ∧
  (∀ s : State, s.run = .running → s.mode = .primary → s.params.irqModel = .absent →
    (∀ x : Word, s.memRead x = 0x00) →
    ∃ t, runFrame s = (.frameDone 69908, t) ∧ Steps 17477 s t ∧ t.pc = s.pc + 17477)

/-! ## The whole instruction set -/

/-- What no instruction changes, and which instructions alone change each part of the control state and SP (R107, R122 to
R126). -/
def Obligations.ControlStateFrame : Prop :=
  ∀ (i : Instr) (s : State), ∃ t, exec i s = .next t ∧
    t.params = s.params ∧ t.inputs = s.inputs ∧ t.mode = s.mode ∧
    (t.run = s.run ∨ i = .halt ∨ (∃ x, i = .stop x) ∨ i ∈ illegalInstrs) ∧
    (t.err = s.err ∨ i ∈ illegalInstrs) ∧
    (t.ime = s.ime ∨ i = .di ∨ i = .reti) ∧
    (t.eiPending = s.eiPending ∨ i = .ei) ∧
    (t.apply = s.apply ∨ i = .di ∨ i ∈ illegalInstrs) ∧
    (t.sp = s.sp ∨ (∃ n, i = .ld_SP_n16 n) ∨ (∃ e, i = .add_SP_e8 e) ∨ i = .ld_SP_HL ∨ i = .inc_SP ∨ i = .dec_SP ∨
      (∃ r, i = Instr.push r ∨ i = Instr.pop r) ∨ (∃ a, i = .call_a16 a) ∨ (∃ cc a, i = Instr.callCc cc a) ∨
      i = .ret ∨ i = .reti ∨ (∃ cc, i = Instr.retCc cc) ∨ ∃ y, i = Instr.rst y) ∧
    (t.pc = s.pc ∨ (∃ e, i = .jr_e8 e) ∨ (∃ cc e, i = Instr.jrCc cc e) ∨ (∃ a, i = .jp_a16 a) ∨
      (∃ cc a, i = Instr.jpCc cc a) ∨ i = .jp_HL ∨ (∃ a, i = .call_a16 a) ∨ (∃ cc a, i = Instr.callCc cc a) ∨
      i = .ret ∨ i = .reti ∨ (∃ cc, i = Instr.retCc cc) ∨ ∃ y, i = Instr.rst y)

/-- The flag table of R120: the flags each family leaves unchanged or forces, and no other instruction writes F. -/
def Obligations.FlagTable : Prop :=
  ∀ (i : Instr) (s : State), ∃ t, exec i s = .next t ∧
    (t.f = s.f ∨ (∃ op src, i = Instr.alu op src) ∨ (∃ o, i = Instr.inc8 o) ∨ (∃ o, i = Instr.dec8 o) ∨
      (∃ r, i = Instr.addHL r) ∨ (∃ e, i = .add_SP_e8 e) ∨ (∃ e, i = .ld_HL_SPe8 e) ∨
      i = .rlca ∨ i = .rrca ∨ i = .rla ∨ i = .rra ∨ (∃ op o, i = Instr.rot op o) ∨ (∃ b o, i = Instr.bit b o) ∨
      i = .daa ∨ i = .cpl ∨ i = .scf ∨ i = .ccf ∨ i = .pop_AF ∨ ∃ op2, i = .prefixCB op2) ∧
    (∀ op src, i = Instr.alu op src → t.nf = decide (op = .sub ∨ op = .sbc ∨ op = .cp)) ∧
    (∀ src, i = Instr.alu .and src → t.hf = true ∧ t.cf = false) ∧
    (∀ op src, i = Instr.alu op src → op = .xor ∨ op = .or → t.hf = false ∧ t.cf = false) ∧
    (∀ o, i = Instr.inc8 o → t.nf = false ∧ t.cf = s.cf) ∧
    (∀ o, i = Instr.dec8 o → t.nf = true ∧ t.cf = s.cf) ∧
    (∀ r, i = Instr.addHL r → t.zf = s.zf ∧ t.nf = false) ∧
    (∀ e, i = .add_SP_e8 e ∨ i = .ld_HL_SPe8 e → t.zf = false ∧ t.nf = false) ∧
    (i = .rlca ∨ i = .rrca ∨ i = .rla ∨ i = .rra → t.zf = false ∧ t.nf = false ∧ t.hf = false) ∧
    (∀ op o, i = Instr.rot op o → t.nf = false ∧ t.hf = false ∧ (op = .swap → t.cf = false)) ∧
    (∀ b o, i = Instr.bit b o → t.nf = false ∧ t.hf = true ∧ t.cf = s.cf) ∧
    (i = .daa → t.nf = s.nf ∧ t.hf = false) ∧
    (i = .cpl → t.zf = s.zf ∧ t.nf = true ∧ t.hf = true ∧ t.cf = s.cf) ∧
    (i = .scf → t.zf = s.zf ∧ t.nf = false ∧ t.hf = false ∧ t.cf = true) ∧
    (i = .ccf → t.zf = s.zf ∧ t.nf = false ∧ t.hf = false)

/-- Only the storing instructions write memory, each at the address its rule gives; every other address, and all of
memory for the other instructions, reads as before (R202, R208, R209, R613). -/
def Obligations.MemoryFrame : Prop :=
  ∀ (i : Instr) (s : State), s.mem.wf = true → ∃ t, exec i s = .next t ∧ t.mem.wf = true ∧
    ∀ x : Word, t.memRead x = s.memRead x ∨
      (x = s.hl ∧ ((∃ r, i = Instr.ld .mHL (.reg r)) ∨ (∃ n, i = Instr.ldN8 .mHL n) ∨ i = Instr.inc8 .mHL ∨
        i = Instr.dec8 .mHL ∨ (∃ op, i = Instr.rot op .mHL) ∨ (∃ b, i = Instr.res b .mHL ∨ i = Instr.set b .mHL) ∨
        i = .ld_mHLi_A ∨ i = .ld_mHLd_A ∨ ∃ op2, i = .prefixCB op2 ∧ opZ op2 = 6 ∧ opX op2 ≠ 1)) ∨
      (x = s.bc ∧ i = .ld_mBC_A) ∨ (x = s.de ∧ i = .ld_mDE_A) ∨
      (∃ n : Byte, x = BitVec.ofNat 16 (0xFF00 + n.toNat) ∧ (i = .ldh_ma8_A n ∨ (n = s.c ∧ i = .ld_mC_A))) ∨
      (∃ a : Word, (x = a ∧ i = .ld_ma16_A a) ∨ ((x = a ∨ x = a + 1) ∧ i = .ld_ma16_SP a)) ∨
      ((x = s.sp - 1 ∨ x = s.sp - 2) ∧ ((∃ r, i = Instr.push r) ∨ (∃ a, i = .call_a16 a) ∨
        (∃ cc a, i = Instr.callCc cc a ∧ s.cond cc = true) ∨ ∃ y, i = Instr.rst y))

end
end

