-- ==== Sys2Proof/Tests/Slice0.lean ====
section
/-! SUPPORT. Tests of the model. Expected values are from the spec: the opcode maps R308 and R309, and the test vectors of
spec/95_test_vectors.md, named V<n>, which the spec derives from its rules. At the end, a witness for each statement
that has hypotheses. -/

namespace Sys2Proof.Tests

open Machine

/-! ## Helpers -/

/-- The default start state of spec/95, PC at `pc` and the given bytes there. -/
def load (pc : Word) (bytes : List Byte) : State :=
  { State.reset with pc := pc, mem := Memory.ofBytes pc.toNat bytes }

/-- Does one step from `s` give exactly `t`? -/
def stepsTo (s t : State) : Bool :=
  match step s with
  | .next u => decide (u = t)
  | _ => false

/-- Do the bytes decode to the instruction, leaving none over? -/
def decodesTo (bytes : List Byte) (i : Instr) : Bool :=
  match decode bytes with
  | .ok (j, []) => decide (j = i)
  | _ => false

/-- Do the bytes of every entry decode to its instruction? -/
def decodesAll (rows : List (List Byte × Instr)) : Bool := rows.all (fun r => decodesTo r.1 r.2)

/-- A machine with the interrupt model of R808, with the given IE, IF and IME. -/
def withIrq (s : State) (ie request : Byte) (ime : Bool) : State :=
  { (s.memWrite 0xFFFF ie).memWrite 0xFF0F request with params := ⟨.document, .gbStandard⟩, ime := ime }

/-! ## Well-formed instructions -/

/-- The bare prefix is refused (R751). -/
theorem test_wellFormed_refuses_the_prefix : (Instr.prefixCB 0x7C).wellFormed = false := by decide

/-- Any other row is accepted. -/
theorem test_wellFormed_accepts : (Instr.nop.wellFormed && (Instr.illegal_D3).wellFormed &&
    (Instr.bit_7_H).wellFormed) = true := by decide

/-! ## Decoding: words written out bit by bit from the formats and fields of R305 to R317 -/

/-- ALU A,R8[z]: 10 ooo sss, with ooo = 001 (ADC) and sss = 011 (E). -/
theorem test_decode_adc_A_E : decodesTo [0b10001011] .adc_A_E = true := by decide

/-- INC R8[y]: 00 ddd 100, with ddd = 110 (the byte at HL). -/
theorem test_decode_inc_mHL : decodesTo [0b00110100] .inc_mHL = true := by decide

/-- ADD HL,R16SP[p]: 00 pp 1 001, with pp = 11 (SP). -/
theorem test_decode_add_HL_SP : decodesTo [0b00111001] .add_HL_SP = true := by decide

/-- SRA R8[z]: CB, 00 101 sss, with sss = 001 (C). -/
theorem test_decode_sra_C : decodesTo [0b11001011, 0b00101001] .sra_C = true := by decide

/-- BIT b,R8[z]: CB, 01 bbb sss, with bbb = 111 and sss = 100 (H). -/
theorem test_decode_bit_7_H : decodesTo [0b11001011, 0b01111100] .bit_7_H = true := by decide

/-- LD R8[y],R8[z]: 01 ddd sss, with ddd = 010 (D) and sss = 111 (A). -/
theorem test_decode_ld_D_A : decodesTo [0b01010111] .ld_D_A = true := by decide

/-- LD (HL),(HL) would be 01 110 110, which is HALT (R600, R753). -/
theorem test_decode_halt : decodesTo [0b01110110] .halt = true := by decide

/-- LD R16SP[p],n16: 00 pp 0 001, with pp = 01 (DE), low byte first (R318). -/
theorem test_decode_ld_DE_n16 : decodesTo [0b00010001, 0b00110100, 0b00010010] (.ld_DE_n16 0x1234) = true := by decide

/-- JR cc,e8: 001 cc 000, with cc = 10 (NC). -/
theorem test_decode_jr_NC : decodesTo [0b00110000, 0b11111011] (.jr_NC_e8 0xFB) = true := by decide

/-- PUSH R16STK[p]: 11 pp 0 101, with pp = 11 (AF). -/
theorem test_decode_push_AF : decodesTo [0b11110101] .push_AF = true := by decide

/-- RST t: 11 ttt 111, with ttt = 011, target 0x18 (R317). -/
theorem test_decode_rst_18 : decodesTo [0b11011111] .rst_18 = true := by decide

/-- What follows an instruction's bytes is left. -/
theorem test_decode_leaves_the_rest : decode [0x3E, 0x05, 0xAF] = .ok (.ld_A_n8 0x05, [0xAF]) := rfl

/-- A cut instruction is refused by name. -/
theorem test_decode_refuses_a_cut_instruction : decode [0xC3, 0x50] = .error .truncated := rfl

/-! ## Decoding: every row of the opcode maps -/

/-- R308, row 0 of the primary map. -/
theorem test_decode_primary_0 : decodesAll
    [([0x00], .nop), ([0x01, 0x34, 0x12], .ld_BC_n16 0x1234), ([0x02], .ld_mBC_A), ([0x03], .inc_BC),
     ([0x04], .inc_B), ([0x05], .dec_B), ([0x06, 0x9A], .ld_B_n8 0x9A), ([0x07], .rlca),
     ([0x08, 0x34, 0x12], .ld_ma16_SP 0x1234), ([0x09], .add_HL_BC), ([0x0A], .ld_A_mBC), ([0x0B], .dec_BC),
     ([0x0C], .inc_C), ([0x0D], .dec_C), ([0x0E, 0x9A], .ld_C_n8 0x9A), ([0x0F], .rrca)] = true := by decide

/-- R308, row 1 of the primary map. -/
theorem test_decode_primary_1 : decodesAll
    [([0x10, 0x9A], .stop 0x9A), ([0x11, 0x34, 0x12], .ld_DE_n16 0x1234), ([0x12], .ld_mDE_A), ([0x13], .inc_DE),
     ([0x14], .inc_D), ([0x15], .dec_D), ([0x16, 0x9A], .ld_D_n8 0x9A), ([0x17], .rla), ([0x18, 0x9A], .jr_e8 0x9A),
     ([0x19], .add_HL_DE), ([0x1A], .ld_A_mDE), ([0x1B], .dec_DE), ([0x1C], .inc_E), ([0x1D], .dec_E),
     ([0x1E, 0x9A], .ld_E_n8 0x9A), ([0x1F], .rra)] = true := by decide

/-- R308, row 2 of the primary map. -/
theorem test_decode_primary_2 : decodesAll
    [([0x20, 0x9A], .jr_NZ_e8 0x9A), ([0x21, 0x34, 0x12], .ld_HL_n16 0x1234), ([0x22], .ld_mHLi_A),
     ([0x23], .inc_HL), ([0x24], .inc_H), ([0x25], .dec_H), ([0x26, 0x9A], .ld_H_n8 0x9A), ([0x27], .daa),
     ([0x28, 0x9A], .jr_Z_e8 0x9A), ([0x29], .add_HL_HL), ([0x2A], .ld_A_mHLi), ([0x2B], .dec_HL), ([0x2C], .inc_L),
     ([0x2D], .dec_L), ([0x2E, 0x9A], .ld_L_n8 0x9A), ([0x2F], .cpl)] = true := by decide

/-- R308, row 3 of the primary map. -/
theorem test_decode_primary_3 : decodesAll
    [([0x30, 0x9A], .jr_NC_e8 0x9A), ([0x31, 0x34, 0x12], .ld_SP_n16 0x1234), ([0x32], .ld_mHLd_A),
     ([0x33], .inc_SP), ([0x34], .inc_mHL), ([0x35], .dec_mHL), ([0x36, 0x9A], .ld_mHL_n8 0x9A), ([0x37], .scf),
     ([0x38, 0x9A], .jr_C_e8 0x9A), ([0x39], .add_HL_SP), ([0x3A], .ld_A_mHLd), ([0x3B], .dec_SP), ([0x3C], .inc_A),
     ([0x3D], .dec_A), ([0x3E, 0x9A], .ld_A_n8 0x9A), ([0x3F], .ccf)] = true := by decide

/-- R308, row 4 of the primary map. -/
theorem test_decode_primary_4 : decodesAll
    [([0x40], .ld_B_B), ([0x41], .ld_B_C), ([0x42], .ld_B_D), ([0x43], .ld_B_E), ([0x44], .ld_B_H),
     ([0x45], .ld_B_L), ([0x46], .ld_B_mHL), ([0x47], .ld_B_A), ([0x48], .ld_C_B), ([0x49], .ld_C_C),
     ([0x4A], .ld_C_D), ([0x4B], .ld_C_E), ([0x4C], .ld_C_H), ([0x4D], .ld_C_L), ([0x4E], .ld_C_mHL),
     ([0x4F], .ld_C_A)] = true := by decide

/-- R308, row 5 of the primary map. -/
theorem test_decode_primary_5 : decodesAll
    [([0x50], .ld_D_B), ([0x51], .ld_D_C), ([0x52], .ld_D_D), ([0x53], .ld_D_E), ([0x54], .ld_D_H),
     ([0x55], .ld_D_L), ([0x56], .ld_D_mHL), ([0x57], .ld_D_A), ([0x58], .ld_E_B), ([0x59], .ld_E_C),
     ([0x5A], .ld_E_D), ([0x5B], .ld_E_E), ([0x5C], .ld_E_H), ([0x5D], .ld_E_L), ([0x5E], .ld_E_mHL),
     ([0x5F], .ld_E_A)] = true := by decide

/-- R308, row 6 of the primary map. -/
theorem test_decode_primary_6 : decodesAll
    [([0x60], .ld_H_B), ([0x61], .ld_H_C), ([0x62], .ld_H_D), ([0x63], .ld_H_E), ([0x64], .ld_H_H),
     ([0x65], .ld_H_L), ([0x66], .ld_H_mHL), ([0x67], .ld_H_A), ([0x68], .ld_L_B), ([0x69], .ld_L_C),
     ([0x6A], .ld_L_D), ([0x6B], .ld_L_E), ([0x6C], .ld_L_H), ([0x6D], .ld_L_L), ([0x6E], .ld_L_mHL),
     ([0x6F], .ld_L_A)] = true := by decide

/-- R308, row 7 of the primary map. -/
theorem test_decode_primary_7 : decodesAll
    [([0x70], .ld_mHL_B), ([0x71], .ld_mHL_C), ([0x72], .ld_mHL_D), ([0x73], .ld_mHL_E), ([0x74], .ld_mHL_H),
     ([0x75], .ld_mHL_L), ([0x76], .halt), ([0x77], .ld_mHL_A), ([0x78], .ld_A_B), ([0x79], .ld_A_C),
     ([0x7A], .ld_A_D), ([0x7B], .ld_A_E), ([0x7C], .ld_A_H), ([0x7D], .ld_A_L), ([0x7E], .ld_A_mHL),
     ([0x7F], .ld_A_A)] = true := by decide

/-- R308, row 8 of the primary map. -/
theorem test_decode_primary_8 : decodesAll
    [([0x80], .add_A_B), ([0x81], .add_A_C), ([0x82], .add_A_D), ([0x83], .add_A_E), ([0x84], .add_A_H),
     ([0x85], .add_A_L), ([0x86], .add_A_mHL), ([0x87], .add_A_A), ([0x88], .adc_A_B), ([0x89], .adc_A_C),
     ([0x8A], .adc_A_D), ([0x8B], .adc_A_E), ([0x8C], .adc_A_H), ([0x8D], .adc_A_L), ([0x8E], .adc_A_mHL),
     ([0x8F], .adc_A_A)] = true := by decide

/-- R308, row 9 of the primary map. -/
theorem test_decode_primary_9 : decodesAll
    [([0x90], .sub_B), ([0x91], .sub_C), ([0x92], .sub_D), ([0x93], .sub_E), ([0x94], .sub_H), ([0x95], .sub_L),
     ([0x96], .sub_mHL), ([0x97], .sub_A), ([0x98], .sbc_A_B), ([0x99], .sbc_A_C), ([0x9A], .sbc_A_D),
     ([0x9B], .sbc_A_E), ([0x9C], .sbc_A_H), ([0x9D], .sbc_A_L), ([0x9E], .sbc_A_mHL), ([0x9F], .sbc_A_A)] = true := by decide

/-- R308, row A of the primary map. -/
theorem test_decode_primary_A : decodesAll
    [([0xA0], .and_B), ([0xA1], .and_C), ([0xA2], .and_D), ([0xA3], .and_E), ([0xA4], .and_H), ([0xA5], .and_L),
     ([0xA6], .and_mHL), ([0xA7], .and_A), ([0xA8], .xor_B), ([0xA9], .xor_C), ([0xAA], .xor_D), ([0xAB], .xor_E),
     ([0xAC], .xor_H), ([0xAD], .xor_L), ([0xAE], .xor_mHL), ([0xAF], .xor_A)] = true := by decide

/-- R308, row B of the primary map. -/
theorem test_decode_primary_B : decodesAll
    [([0xB0], .or_B), ([0xB1], .or_C), ([0xB2], .or_D), ([0xB3], .or_E), ([0xB4], .or_H), ([0xB5], .or_L),
     ([0xB6], .or_mHL), ([0xB7], .or_A), ([0xB8], .cp_B), ([0xB9], .cp_C), ([0xBA], .cp_D), ([0xBB], .cp_E),
     ([0xBC], .cp_H), ([0xBD], .cp_L), ([0xBE], .cp_mHL), ([0xBF], .cp_A)] = true := by decide

/-- R308, row C of the primary map. -/
theorem test_decode_primary_C : decodesAll
    [([0xC0], .ret_NZ), ([0xC1], .pop_BC), ([0xC2, 0x34, 0x12], .jp_NZ_a16 0x1234),
     ([0xC3, 0x34, 0x12], .jp_a16 0x1234), ([0xC4, 0x34, 0x12], .call_NZ_a16 0x1234), ([0xC5], .push_BC),
     ([0xC6, 0x9A], .add_A_n8 0x9A), ([0xC7], .rst_00), ([0xC8], .ret_Z), ([0xC9], .ret),
     ([0xCA, 0x34, 0x12], .jp_Z_a16 0x1234), ([0xCC, 0x34, 0x12], .call_Z_a16 0x1234),
     ([0xCD, 0x34, 0x12], .call_a16 0x1234), ([0xCE, 0x9A], .adc_A_n8 0x9A), ([0xCF], .rst_08)] = true := by decide

/-- R308, row D of the primary map. -/
theorem test_decode_primary_D : decodesAll
    [([0xD0], .ret_NC), ([0xD1], .pop_DE), ([0xD2, 0x34, 0x12], .jp_NC_a16 0x1234), ([0xD3], .illegal_D3),
     ([0xD4, 0x34, 0x12], .call_NC_a16 0x1234), ([0xD5], .push_DE), ([0xD6, 0x9A], .sub_n8 0x9A), ([0xD7], .rst_10),
     ([0xD8], .ret_C), ([0xD9], .reti), ([0xDA, 0x34, 0x12], .jp_C_a16 0x1234), ([0xDB], .illegal_DB),
     ([0xDC, 0x34, 0x12], .call_C_a16 0x1234), ([0xDD], .illegal_DD), ([0xDE, 0x9A], .sbc_A_n8 0x9A),
     ([0xDF], .rst_18)] = true := by decide

/-- R308, row E of the primary map. -/
theorem test_decode_primary_E : decodesAll
    [([0xE0, 0x9A], .ldh_ma8_A 0x9A), ([0xE1], .pop_HL), ([0xE2], .ld_mC_A), ([0xE3], .illegal_E3),
     ([0xE4], .illegal_E4), ([0xE5], .push_HL), ([0xE6, 0x9A], .and_n8 0x9A), ([0xE7], .rst_20),
     ([0xE8, 0x9A], .add_SP_e8 0x9A), ([0xE9], .jp_HL), ([0xEA, 0x34, 0x12], .ld_ma16_A 0x1234),
     ([0xEB], .illegal_EB), ([0xEC], .illegal_EC), ([0xED], .illegal_ED), ([0xEE, 0x9A], .xor_n8 0x9A),
     ([0xEF], .rst_28)] = true := by decide

/-- R308, row F of the primary map. -/
theorem test_decode_primary_F : decodesAll
    [([0xF0, 0x9A], .ldh_A_ma8 0x9A), ([0xF1], .pop_AF), ([0xF2], .ld_A_mC), ([0xF3], .di), ([0xF4], .illegal_F4),
     ([0xF5], .push_AF), ([0xF6, 0x9A], .or_n8 0x9A), ([0xF7], .rst_30), ([0xF8, 0x9A], .ld_HL_SPe8 0x9A),
     ([0xF9], .ld_SP_HL), ([0xFA, 0x34, 0x12], .ld_A_ma16 0x1234), ([0xFB], .ei), ([0xFC], .illegal_FC),
     ([0xFD], .illegal_FD), ([0xFE, 0x9A], .cp_n8 0x9A), ([0xFF], .rst_38)] = true := by decide

/-- R309, row 0 of the extended map. -/
theorem test_decode_extended_0 : decodesAll
    [([0xCB, 0x00], .rlc_B), ([0xCB, 0x01], .rlc_C), ([0xCB, 0x02], .rlc_D), ([0xCB, 0x03], .rlc_E),
     ([0xCB, 0x04], .rlc_H), ([0xCB, 0x05], .rlc_L), ([0xCB, 0x06], .rlc_mHL), ([0xCB, 0x07], .rlc_A),
     ([0xCB, 0x08], .rrc_B), ([0xCB, 0x09], .rrc_C), ([0xCB, 0x0A], .rrc_D), ([0xCB, 0x0B], .rrc_E),
     ([0xCB, 0x0C], .rrc_H), ([0xCB, 0x0D], .rrc_L), ([0xCB, 0x0E], .rrc_mHL), ([0xCB, 0x0F], .rrc_A)] = true := by decide

/-- R309, row 1 of the extended map. -/
theorem test_decode_extended_1 : decodesAll
    [([0xCB, 0x10], .rl_B), ([0xCB, 0x11], .rl_C), ([0xCB, 0x12], .rl_D), ([0xCB, 0x13], .rl_E),
     ([0xCB, 0x14], .rl_H), ([0xCB, 0x15], .rl_L), ([0xCB, 0x16], .rl_mHL), ([0xCB, 0x17], .rl_A),
     ([0xCB, 0x18], .rr_B), ([0xCB, 0x19], .rr_C), ([0xCB, 0x1A], .rr_D), ([0xCB, 0x1B], .rr_E),
     ([0xCB, 0x1C], .rr_H), ([0xCB, 0x1D], .rr_L), ([0xCB, 0x1E], .rr_mHL), ([0xCB, 0x1F], .rr_A)] = true := by decide

/-- R309, row 2 of the extended map. -/
theorem test_decode_extended_2 : decodesAll
    [([0xCB, 0x20], .sla_B), ([0xCB, 0x21], .sla_C), ([0xCB, 0x22], .sla_D), ([0xCB, 0x23], .sla_E),
     ([0xCB, 0x24], .sla_H), ([0xCB, 0x25], .sla_L), ([0xCB, 0x26], .sla_mHL), ([0xCB, 0x27], .sla_A),
     ([0xCB, 0x28], .sra_B), ([0xCB, 0x29], .sra_C), ([0xCB, 0x2A], .sra_D), ([0xCB, 0x2B], .sra_E),
     ([0xCB, 0x2C], .sra_H), ([0xCB, 0x2D], .sra_L), ([0xCB, 0x2E], .sra_mHL), ([0xCB, 0x2F], .sra_A)] = true := by decide

/-- R309, row 3 of the extended map. -/
theorem test_decode_extended_3 : decodesAll
    [([0xCB, 0x30], .swap_B), ([0xCB, 0x31], .swap_C), ([0xCB, 0x32], .swap_D), ([0xCB, 0x33], .swap_E),
     ([0xCB, 0x34], .swap_H), ([0xCB, 0x35], .swap_L), ([0xCB, 0x36], .swap_mHL), ([0xCB, 0x37], .swap_A),
     ([0xCB, 0x38], .srl_B), ([0xCB, 0x39], .srl_C), ([0xCB, 0x3A], .srl_D), ([0xCB, 0x3B], .srl_E),
     ([0xCB, 0x3C], .srl_H), ([0xCB, 0x3D], .srl_L), ([0xCB, 0x3E], .srl_mHL), ([0xCB, 0x3F], .srl_A)] = true := by decide

/-- R309, row 4 of the extended map. -/
theorem test_decode_extended_4 : decodesAll
    [([0xCB, 0x40], .bit_0_B), ([0xCB, 0x41], .bit_0_C), ([0xCB, 0x42], .bit_0_D), ([0xCB, 0x43], .bit_0_E),
     ([0xCB, 0x44], .bit_0_H), ([0xCB, 0x45], .bit_0_L), ([0xCB, 0x46], .bit_0_mHL), ([0xCB, 0x47], .bit_0_A),
     ([0xCB, 0x48], .bit_1_B), ([0xCB, 0x49], .bit_1_C), ([0xCB, 0x4A], .bit_1_D), ([0xCB, 0x4B], .bit_1_E),
     ([0xCB, 0x4C], .bit_1_H), ([0xCB, 0x4D], .bit_1_L), ([0xCB, 0x4E], .bit_1_mHL), ([0xCB, 0x4F], .bit_1_A)] = true := by decide

/-- R309, row 5 of the extended map. -/
theorem test_decode_extended_5 : decodesAll
    [([0xCB, 0x50], .bit_2_B), ([0xCB, 0x51], .bit_2_C), ([0xCB, 0x52], .bit_2_D), ([0xCB, 0x53], .bit_2_E),
     ([0xCB, 0x54], .bit_2_H), ([0xCB, 0x55], .bit_2_L), ([0xCB, 0x56], .bit_2_mHL), ([0xCB, 0x57], .bit_2_A),
     ([0xCB, 0x58], .bit_3_B), ([0xCB, 0x59], .bit_3_C), ([0xCB, 0x5A], .bit_3_D), ([0xCB, 0x5B], .bit_3_E),
     ([0xCB, 0x5C], .bit_3_H), ([0xCB, 0x5D], .bit_3_L), ([0xCB, 0x5E], .bit_3_mHL), ([0xCB, 0x5F], .bit_3_A)] = true := by decide

/-- R309, row 6 of the extended map. -/
theorem test_decode_extended_6 : decodesAll
    [([0xCB, 0x60], .bit_4_B), ([0xCB, 0x61], .bit_4_C), ([0xCB, 0x62], .bit_4_D), ([0xCB, 0x63], .bit_4_E),
     ([0xCB, 0x64], .bit_4_H), ([0xCB, 0x65], .bit_4_L), ([0xCB, 0x66], .bit_4_mHL), ([0xCB, 0x67], .bit_4_A),
     ([0xCB, 0x68], .bit_5_B), ([0xCB, 0x69], .bit_5_C), ([0xCB, 0x6A], .bit_5_D), ([0xCB, 0x6B], .bit_5_E),
     ([0xCB, 0x6C], .bit_5_H), ([0xCB, 0x6D], .bit_5_L), ([0xCB, 0x6E], .bit_5_mHL), ([0xCB, 0x6F], .bit_5_A)] = true := by decide

/-- R309, row 7 of the extended map. -/
theorem test_decode_extended_7 : decodesAll
    [([0xCB, 0x70], .bit_6_B), ([0xCB, 0x71], .bit_6_C), ([0xCB, 0x72], .bit_6_D), ([0xCB, 0x73], .bit_6_E),
     ([0xCB, 0x74], .bit_6_H), ([0xCB, 0x75], .bit_6_L), ([0xCB, 0x76], .bit_6_mHL), ([0xCB, 0x77], .bit_6_A),
     ([0xCB, 0x78], .bit_7_B), ([0xCB, 0x79], .bit_7_C), ([0xCB, 0x7A], .bit_7_D), ([0xCB, 0x7B], .bit_7_E),
     ([0xCB, 0x7C], .bit_7_H), ([0xCB, 0x7D], .bit_7_L), ([0xCB, 0x7E], .bit_7_mHL), ([0xCB, 0x7F], .bit_7_A)] = true := by decide

/-- R309, row 8 of the extended map. -/
theorem test_decode_extended_8 : decodesAll
    [([0xCB, 0x80], .res_0_B), ([0xCB, 0x81], .res_0_C), ([0xCB, 0x82], .res_0_D), ([0xCB, 0x83], .res_0_E),
     ([0xCB, 0x84], .res_0_H), ([0xCB, 0x85], .res_0_L), ([0xCB, 0x86], .res_0_mHL), ([0xCB, 0x87], .res_0_A),
     ([0xCB, 0x88], .res_1_B), ([0xCB, 0x89], .res_1_C), ([0xCB, 0x8A], .res_1_D), ([0xCB, 0x8B], .res_1_E),
     ([0xCB, 0x8C], .res_1_H), ([0xCB, 0x8D], .res_1_L), ([0xCB, 0x8E], .res_1_mHL), ([0xCB, 0x8F], .res_1_A)] = true := by decide

/-- R309, row 9 of the extended map. -/
theorem test_decode_extended_9 : decodesAll
    [([0xCB, 0x90], .res_2_B), ([0xCB, 0x91], .res_2_C), ([0xCB, 0x92], .res_2_D), ([0xCB, 0x93], .res_2_E),
     ([0xCB, 0x94], .res_2_H), ([0xCB, 0x95], .res_2_L), ([0xCB, 0x96], .res_2_mHL), ([0xCB, 0x97], .res_2_A),
     ([0xCB, 0x98], .res_3_B), ([0xCB, 0x99], .res_3_C), ([0xCB, 0x9A], .res_3_D), ([0xCB, 0x9B], .res_3_E),
     ([0xCB, 0x9C], .res_3_H), ([0xCB, 0x9D], .res_3_L), ([0xCB, 0x9E], .res_3_mHL), ([0xCB, 0x9F], .res_3_A)] = true := by decide

/-- R309, row A of the extended map. -/
theorem test_decode_extended_A : decodesAll
    [([0xCB, 0xA0], .res_4_B), ([0xCB, 0xA1], .res_4_C), ([0xCB, 0xA2], .res_4_D), ([0xCB, 0xA3], .res_4_E),
     ([0xCB, 0xA4], .res_4_H), ([0xCB, 0xA5], .res_4_L), ([0xCB, 0xA6], .res_4_mHL), ([0xCB, 0xA7], .res_4_A),
     ([0xCB, 0xA8], .res_5_B), ([0xCB, 0xA9], .res_5_C), ([0xCB, 0xAA], .res_5_D), ([0xCB, 0xAB], .res_5_E),
     ([0xCB, 0xAC], .res_5_H), ([0xCB, 0xAD], .res_5_L), ([0xCB, 0xAE], .res_5_mHL), ([0xCB, 0xAF], .res_5_A)] = true := by decide

/-- R309, row B of the extended map. -/
theorem test_decode_extended_B : decodesAll
    [([0xCB, 0xB0], .res_6_B), ([0xCB, 0xB1], .res_6_C), ([0xCB, 0xB2], .res_6_D), ([0xCB, 0xB3], .res_6_E),
     ([0xCB, 0xB4], .res_6_H), ([0xCB, 0xB5], .res_6_L), ([0xCB, 0xB6], .res_6_mHL), ([0xCB, 0xB7], .res_6_A),
     ([0xCB, 0xB8], .res_7_B), ([0xCB, 0xB9], .res_7_C), ([0xCB, 0xBA], .res_7_D), ([0xCB, 0xBB], .res_7_E),
     ([0xCB, 0xBC], .res_7_H), ([0xCB, 0xBD], .res_7_L), ([0xCB, 0xBE], .res_7_mHL), ([0xCB, 0xBF], .res_7_A)] = true := by decide

/-- R309, row C of the extended map. -/
theorem test_decode_extended_C : decodesAll
    [([0xCB, 0xC0], .set_0_B), ([0xCB, 0xC1], .set_0_C), ([0xCB, 0xC2], .set_0_D), ([0xCB, 0xC3], .set_0_E),
     ([0xCB, 0xC4], .set_0_H), ([0xCB, 0xC5], .set_0_L), ([0xCB, 0xC6], .set_0_mHL), ([0xCB, 0xC7], .set_0_A),
     ([0xCB, 0xC8], .set_1_B), ([0xCB, 0xC9], .set_1_C), ([0xCB, 0xCA], .set_1_D), ([0xCB, 0xCB], .set_1_E),
     ([0xCB, 0xCC], .set_1_H), ([0xCB, 0xCD], .set_1_L), ([0xCB, 0xCE], .set_1_mHL), ([0xCB, 0xCF], .set_1_A)] = true := by decide

/-- R309, row D of the extended map. -/
theorem test_decode_extended_D : decodesAll
    [([0xCB, 0xD0], .set_2_B), ([0xCB, 0xD1], .set_2_C), ([0xCB, 0xD2], .set_2_D), ([0xCB, 0xD3], .set_2_E),
     ([0xCB, 0xD4], .set_2_H), ([0xCB, 0xD5], .set_2_L), ([0xCB, 0xD6], .set_2_mHL), ([0xCB, 0xD7], .set_2_A),
     ([0xCB, 0xD8], .set_3_B), ([0xCB, 0xD9], .set_3_C), ([0xCB, 0xDA], .set_3_D), ([0xCB, 0xDB], .set_3_E),
     ([0xCB, 0xDC], .set_3_H), ([0xCB, 0xDD], .set_3_L), ([0xCB, 0xDE], .set_3_mHL), ([0xCB, 0xDF], .set_3_A)] = true := by decide

/-- R309, row E of the extended map. -/
theorem test_decode_extended_E : decodesAll
    [([0xCB, 0xE0], .set_4_B), ([0xCB, 0xE1], .set_4_C), ([0xCB, 0xE2], .set_4_D), ([0xCB, 0xE3], .set_4_E),
     ([0xCB, 0xE4], .set_4_H), ([0xCB, 0xE5], .set_4_L), ([0xCB, 0xE6], .set_4_mHL), ([0xCB, 0xE7], .set_4_A),
     ([0xCB, 0xE8], .set_5_B), ([0xCB, 0xE9], .set_5_C), ([0xCB, 0xEA], .set_5_D), ([0xCB, 0xEB], .set_5_E),
     ([0xCB, 0xEC], .set_5_H), ([0xCB, 0xED], .set_5_L), ([0xCB, 0xEE], .set_5_mHL), ([0xCB, 0xEF], .set_5_A)] = true := by decide

/-- R309, row F of the extended map. -/
theorem test_decode_extended_F : decodesAll
    [([0xCB, 0xF0], .set_6_B), ([0xCB, 0xF1], .set_6_C), ([0xCB, 0xF2], .set_6_D), ([0xCB, 0xF3], .set_6_E),
     ([0xCB, 0xF4], .set_6_H), ([0xCB, 0xF5], .set_6_L), ([0xCB, 0xF6], .set_6_mHL), ([0xCB, 0xF7], .set_6_A),
     ([0xCB, 0xF8], .set_7_B), ([0xCB, 0xF9], .set_7_C), ([0xCB, 0xFA], .set_7_D), ([0xCB, 0xFB], .set_7_E),
     ([0xCB, 0xFC], .set_7_H), ([0xCB, 0xFD], .set_7_L), ([0xCB, 0xFE], .set_7_mHL), ([0xCB, 0xFF], .set_7_A)] = true := by decide

/-! ## The host's words -/

/-- BIT 7,H as the table numbers it, 0xCB7C (R327), and with its first byte lowest. -/
theorem test_decodeTableWord_extended :
    decodeTableWord 16 0xCB7C = some .bit_7_H ∧ decodeTableWord 16 0x7CCB = some .bit_7_H := ⟨rfl, rfl⟩

/-- A primary row with its operand bytes zero. -/
theorem test_decodeTableWord_primary : decodeTableWord 8 0xCD = some (.call_a16 0x0000) := rfl

/-- The next step after `withFetchWord` runs the word. -/
theorem test_withFetchWord :
    stepsTo (State.reset.withFetchWord 16 0xCB7C)
      { State.reset.withFetchWord 16 0xCB7C with pc := 0x0002, f := 0xB0, result := some (.cycles 12) } = true := by decide

/-! ## One step of the machine, against the vectors of spec/95 -/

/-- R402, spec/95 V1. -/
theorem test_V1_ADD_A_B :
    let s : State := { load 0x0100 [0x80] with a := 0x3A, b := 0xC6, f := 0x00 }
    stepsTo s { s with a := 0x00, f := 0xB0, pc := 0x0101, result := some (.cycles 4) } = true := by decide

/-- R403, spec/95 V5. -/
theorem test_V5_ADD_A_HL :
    let s : State := ({ load 0x0100 [0x86] with a := 0x12, h := 0xC0, l := 0x00, f := 0x00 }).memWrite 0xC000 0xF0
    stepsTo s { s with a := 0x02, f := 0x10, pc := 0x0101, result := some (.cycles 8) } = true := by decide

/-- R405, spec/95 V7. -/
theorem test_V7_ADC_A_C :
    let s : State := { load 0x0100 [0x89] with a := 0xE1, c := 0x0F, f := 0x10 }
    stepsTo s { s with a := 0xF1, f := 0x20, pc := 0x0101, result := some (.cycles 4) } = true := by decide

/-- R407, spec/95 V9. -/
theorem test_V9_ADC_A_n8 :
    let s : State := { load 0x0100 [0xCE, 0xFF] with a := 0x00, f := 0x10 }
    stepsTo s { s with f := 0xB0, pc := 0x0102, result := some (.cycles 8) } = true := by decide

/-- R408, spec/95 V11. -/
theorem test_V11_SUB_E :
    let s : State := { load 0x0100 [0x93] with a := 0x3E, e := 0x0F, f := 0x00 }
    stepsTo s { s with a := 0x2F, f := 0x60, pc := 0x0101, result := some (.cycles 4) } = true := by decide

/-- R411, spec/95 V15. -/
theorem test_V15_SBC_A_A :
    let s : State := { load 0x0100 [0x9F] with a := 0x42, f := 0x10 }
    stepsTo s { s with a := 0xFF, f := 0x70, pc := 0x0101, result := some (.cycles 4) } = true := by decide

/-- R413, spec/95 V16. -/
theorem test_V16_SBC_A_n8 :
    let s : State := { load 0x0100 [0xDE, 0x00] with a := 0x00, f := 0x10 }
    stepsTo s { s with a := 0xFF, f := 0x70, pc := 0x0102, result := some (.cycles 8) } = true := by decide

/-- R416, spec/95 V18. -/
theorem test_V18_AND_n8 :
    let s : State := { load 0x0100 [0xE6, 0x00] with a := 0xFF, f := 0x50 }
    stepsTo s { s with a := 0x00, f := 0xA0, pc := 0x0102, result := some (.cycles 8) } = true := by decide

/-- R417, spec/95 V20. -/
theorem test_V20_XOR_A :
    let s : State := { load 0x0100 [0xAF] with a := 0x9C, f := 0x70 }
    stepsTo s { s with a := 0x00, f := 0x80, pc := 0x0101, result := some (.cycles 4) } = true := by decide

/-- R421, spec/95 V22. -/
theorem test_V22_OR_HL :
    let s : State := ({ load 0x0100 [0xB6] with a := 0x5A, h := 0xC0, l := 0x00, f := 0x00 }).memWrite 0xC000 0x0F
    stepsTo s { s with a := 0x5F, pc := 0x0101, result := some (.cycles 8) } = true := by decide

/-- R423, spec/95 V24. -/
theorem test_V24_CP_B :
    let s : State := { load 0x0100 [0xB8] with a := 0x3C, b := 0x3C, f := 0x00 }
    stepsTo s { s with f := 0xC0, pc := 0x0101, result := some (.cycles 4) } = true := by decide

/-- R424, spec/95 V26. -/
theorem test_V26_CP_HL :
    let s : State := ({ load 0x0100 [0xBE] with a := 0x00, h := 0xC0, l := 0x00, f := 0x00 }).memWrite 0xC000 0x01
    stepsTo s { s with f := 0x70, pc := 0x0101, result := some (.cycles 8) } = true := by decide

/-- R426, spec/95 V27. -/
theorem test_V27_INC_A :
    let s : State := { load 0x0100 [0x3C] with a := 0xFF, f := 0x10 }
    stepsTo s { s with a := 0x00, f := 0xB0, pc := 0x0101, result := some (.cycles 4) } = true := by decide

/-- R427, spec/95 V29. -/
theorem test_V29_INC_HL :
    let s : State := ({ load 0x0100 [0x34] with h := 0xC0, l := 0x00, f := 0x50 }).memWrite 0xC000 0x7F
    stepsTo s { s.memWrite 0xC000 0x80 with f := 0x30, pc := 0x0101, result := some (.cycles 12) } = true := by decide

/-- R428, spec/95 V31. -/
theorem test_V31_DEC_A :
    let s : State := { load 0x0100 [0x3D] with a := 0x00, f := 0x00 }
    stepsTo s { s with a := 0xFF, f := 0x60, pc := 0x0101, result := some (.cycles 4) } = true := by decide

/-- R429, spec/95 V33. -/
theorem test_V33_DEC_HL :
    let s : State := ({ load 0x0100 [0x35] with h := 0xC0, l := 0x00, f := 0x10 }).memWrite 0xC000 0x00
    stepsTo s { s.memWrite 0xC000 0xFF with f := 0x70, pc := 0x0101, result := some (.cycles 12) } = true := by decide

/-- R450, spec/95 V34. -/
theorem test_V34_INC_BC :
    let s : State := { load 0x0100 [0x03] with b := 0xFF, c := 0xFF, f := 0xB0 }
    stepsTo s { s with b := 0x00, c := 0x00, pc := 0x0101, result := some (.cycles 8) } = true := by decide

/-- R451, spec/95 V37. -/
theorem test_V37_DEC_HL :
    let s : State := { load 0x0100 [0x2B] with h := 0x01, l := 0x00, f := 0x50 }
    stepsTo s { s with h := 0x00, l := 0xFF, pc := 0x0101, result := some (.cycles 8) } = true := by decide

/-- R454, spec/95 V38. -/
theorem test_V38_ADD_HL_BC :
    let s : State := { load 0x0100 [0x09] with h := 0x8A, l := 0x23, b := 0x06, c := 0x05, f := 0x80 }
    stepsTo s { s with f := 0xA0, h := 0x90, l := 0x28, pc := 0x0101, result := some (.cycles 8) } = true := by decide

/-- R454, spec/95 V41. -/
theorem test_V41_ADD_HL_DE :
    let s : State := { load 0x0100 [0x19] with h := 0x0F, l := 0xFF, d := 0x00, e := 0x01, f := 0xC0 }
    stepsTo s { s with f := 0xA0, h := 0x10, l := 0x00, pc := 0x0101, result := some (.cycles 8) } = true := by decide

/-- R452, spec/95 V43. -/
theorem test_V43_ADD_SP_e8 :
    let s : State := { load 0x0100 [0xE8, 0xFF] with sp := 0x0001, f := 0x00 }
    stepsTo s { s with f := 0x30, sp := 0x0000, pc := 0x0102, result := some (.cycles 16) } = true := by decide

/-- R453, spec/95 V46. -/
theorem test_V46_LD_HL_SP_plus_e8 :
    let s : State := { load 0x0100 [0xF8, 0x80] with sp := 0x0080, f := 0x00 }
    stepsTo s { s with f := 0x10, h := 0x00, l := 0x00, pc := 0x0102, result := some (.cycles 12) } = true := by decide

/-- R500, spec/95 V49. -/
theorem test_V49_RLCA :
    let s : State := { load 0x0100 [0x07] with a := 0x85, f := 0x00 }
    stepsTo s { s with a := 0x0B, f := 0x10, pc := 0x0101, result := some (.cycles 4) } = true := by decide

/-- R500, spec/95 V50. -/
theorem test_V50_RLCA :
    let s : State := { load 0x0100 [0x07] with a := 0x00, f := 0x80 }
    stepsTo s { s with f := 0x00, pc := 0x0101, result := some (.cycles 4) } = true := by decide

/-- R501, spec/95 V51. -/
theorem test_V51_RRCA :
    let s : State := { load 0x0100 [0x0F] with a := 0x3B, f := 0x00 }
    stepsTo s { s with a := 0x9D, f := 0x10, pc := 0x0101, result := some (.cycles 4) } = true := by decide

/-- R502, spec/95 V52. -/
theorem test_V52_RLA :
    let s : State := { load 0x0100 [0x17] with a := 0x95, f := 0x10 }
    stepsTo s { s with a := 0x2B, pc := 0x0101, result := some (.cycles 4) } = true := by decide

/-- R503, spec/95 V53. -/
theorem test_V53_RRA :
    let s : State := { load 0x0100 [0x1F] with a := 0x81, f := 0x00 }
    stepsTo s { s with a := 0x40, f := 0x10, pc := 0x0101, result := some (.cycles 4) } = true := by decide

/-- R505, spec/95 V55. -/
theorem test_V55_RLC_B :
    let s : State := { load 0x0100 [0xCB, 0x00] with b := 0x00, f := 0x00 }
    stepsTo s { s with f := 0x80, pc := 0x0102, result := some (.cycles 12) } = true := by decide

/-- R508, spec/95 V56. -/
theorem test_V56_RRC_HL :
    let s : State := ({ load 0x0100 [0xCB, 0x0E] with h := 0xC0, l := 0x00, f := 0x00 }).memWrite 0xC000 0x01
    stepsTo s { s.memWrite 0xC000 0x80 with f := 0x10, pc := 0x0102, result := some (.cycles 20) } = true := by decide

/-- R509, spec/95 V57. -/
theorem test_V57_RL_L :
    let s : State := { load 0x0100 [0xCB, 0x15] with l := 0x80, f := 0x00 }
    stepsTo s { s with f := 0x90, l := 0x00, pc := 0x0102, result := some (.cycles 12) } = true := by decide

/-- R511, spec/95 V58. -/
theorem test_V58_RR_A :
    let s : State := { load 0x0100 [0xCB, 0x1F] with a := 0x01, f := 0x00 }
    stepsTo s { s with a := 0x00, f := 0x90, pc := 0x0102, result := some (.cycles 12) } = true := by decide

/-- R513, spec/95 V59. -/
theorem test_V59_SLA_D :
    let s : State := { load 0x0100 [0xCB, 0x22] with d := 0x80, f := 0x00 }
    stepsTo s { s with f := 0x90, d := 0x00, pc := 0x0102, result := some (.cycles 12) } = true := by decide

/-- R515, spec/95 V60. -/
theorem test_V60_SRA_A :
    let s : State := { load 0x0100 [0xCB, 0x2F] with a := 0x8A, f := 0x00 }
    stepsTo s { s with a := 0xC5, pc := 0x0102, result := some (.cycles 12) } = true := by decide

/-- R517, spec/95 V62. -/
theorem test_V62_SWAP_A :
    let s : State := { load 0x0100 [0xCB, 0x37] with a := 0xF0, f := 0x10 }
    stepsTo s { s with a := 0x0F, f := 0x00, pc := 0x0102, result := some (.cycles 12) } = true := by decide

/-- R520, spec/95 V65. -/
theorem test_V65_SRL_HL :
    let s : State := ({ load 0x0100 [0xCB, 0x3E] with h := 0xC0, l := 0x00, f := 0x00 }).memWrite 0xC000 0xFF
    stepsTo s { s.memWrite 0xC000 0x7F with f := 0x10, pc := 0x0102, result := some (.cycles 20) } = true := by decide

/-- R521, spec/95 V67. -/
theorem test_V67_BIT_7_H :
    let s : State := { load 0x0100 [0xCB, 0x7C] with h := 0x7F, f := 0x10 }
    stepsTo s { s with f := 0xB0, pc := 0x0102, result := some (.cycles 12) } = true := by decide

/-- R522, spec/95 V68. -/
theorem test_V68_BIT_0_HL :
    let s : State := ({ load 0x0100 [0xCB, 0x46] with h := 0xC0, l := 0x00, f := 0x10 }).memWrite 0xC000 0xFE
    stepsTo s { s with f := 0xB0, pc := 0x0102, result := some (.cycles 16) } = true := by decide

/-- R523, spec/95 V69. -/
theorem test_V69_RES_3_A :
    let s : State := { load 0x0100 [0xCB, 0x9F] with a := 0xFF, f := 0x00 }
    stepsTo s { s with a := 0xF7, pc := 0x0102, result := some (.cycles 12) } = true := by decide

/-- R526, spec/95 V70. -/
theorem test_V70_SET_7_HL :
    let s : State := ({ load 0x0100 [0xCB, 0xFE] with h := 0xC0, l := 0x00, f := 0x00 }).memWrite 0xC000 0x00
    stepsTo s { s.memWrite 0xC000 0x80 with pc := 0x0102, result := some (.cycles 20) } = true := by decide

/-- R521, spec/95 V71. -/
theorem test_V71_BIT_7_H_CB_TIMING_hardware :
    let s : State := { load 0x0100 [0xCB, 0x7C] with h := 0x80, f := 0x00, params := ⟨.hardware, .absent⟩ }
    stepsTo s { s with f := 0x20, pc := 0x0102, result := some (.cycles 8) } = true := by decide

/-- R526, spec/95 V72. -/
theorem test_V72_SET_7_HL_CB_TIMING_hardware :
    let s : State := ({ load 0x0100 [0xCB, 0xFE] with h := 0xC0, l := 0x00, f := 0x00, params := ⟨.hardware, .absent⟩ }).memWrite 0xC000 0x00
    stepsTo s { s.memWrite 0xC000 0x80 with pc := 0x0102, result := some (.cycles 16) } = true := by decide

/-- R550, spec/95 V73. -/
theorem test_V73_DAA :
    let s : State := { load 0x0100 [0x27] with a := 0x7D, f := 0x00 }
    stepsTo s { s with a := 0x83, pc := 0x0101, result := some (.cycles 4) } = true := by decide

/-- R550, spec/95 V75. -/
theorem test_V75_DAA :
    let s : State := { load 0x0100 [0x27] with a := 0x9A, f := 0x00 }
    stepsTo s { s with a := 0x00, f := 0x90, pc := 0x0101, result := some (.cycles 4) } = true := by decide

/-- R550, spec/95 V76. -/
theorem test_V76_DAA :
    let s : State := { load 0x0100 [0x27] with a := 0x00, f := 0x70 }
    stepsTo s { s with a := 0x9A, f := 0x50, pc := 0x0101, result := some (.cycles 4) } = true := by decide

/-- R551, spec/95 V78. -/
theorem test_V78_CPL :
    let s : State := { load 0x0100 [0x2F] with a := 0x35, f := 0x00 }
    stepsTo s { s with a := 0xCA, f := 0x60, pc := 0x0101, result := some (.cycles 4) } = true := by decide

/-- R552, spec/95 V79. -/
theorem test_V79_SCF :
    let s : State := { load 0x0100 [0x37] with f := 0xE0 }
    stepsTo s { s with f := 0x90, pc := 0x0101, result := some (.cycles 4) } = true := by decide

/-- R553, spec/95 V80. -/
theorem test_V80_CCF :
    let s : State := { load 0x0100 [0x3F] with f := 0xF0 }
    stepsTo s { s with f := 0x80, pc := 0x0101, result := some (.cycles 4) } = true := by decide

/-- R600, spec/95 V83. -/
theorem test_V83_LD_A_A :
    let s : State := { load 0x0100 [0x7F] with a := 0x42, f := 0x00 }
    stepsTo s { s with pc := 0x0101, result := some (.cycles 4) } = true := by decide

/-- R601, spec/95 V84. -/
theorem test_V84_LD_D_n8 :
    let s : State := { load 0x0100 [0x16, 0xAB] with f := 0x00 }
    stepsTo s { s with d := 0xAB, pc := 0x0102, result := some (.cycles 8) } = true := by decide

/-- R602, spec/95 V85. -/
theorem test_V85_LD_H_HL :
    let s : State := ({ load 0x0100 [0x66] with h := 0xC0, l := 0x00, f := 0x00 }).memWrite 0xC000 0x5C
    stepsTo s { s with h := 0x5C, pc := 0x0101, result := some (.cycles 8) } = true := by decide

/-- R603, spec/95 V86. -/
theorem test_V86_LD_HL_L :
    let s : State := { load 0x0100 [0x75] with h := 0xC0, l := 0x12, f := 0x00 }
    stepsTo s { s.memWrite 0xC012 0x12 with pc := 0x0101, result := some (.cycles 8) } = true := by decide

/-- R604, spec/95 V87. -/
theorem test_V87_LD_HL_n8 :
    let s : State := { load 0x0100 [0x36, 0x77] with h := 0xC0, l := 0x00, f := 0x00 }
    stepsTo s { s.memWrite 0xC000 0x77 with pc := 0x0102, result := some (.cycles 12) } = true := by decide

/-- R605, spec/95 V88. -/
theorem test_V88_LD_A_BC :
    let s : State := ({ load 0x0100 [0x0A] with b := 0xC0, c := 0x00, f := 0x00 }).memWrite 0xC000 0x3C
    stepsTo s { s with a := 0x3C, pc := 0x0101, result := some (.cycles 8) } = true := by decide

/-- R608, spec/95 V89. -/
theorem test_V89_LD_DE_A :
    let s : State := { load 0x0100 [0x12] with a := 0x66, d := 0xC0, e := 0x01, f := 0x00 }
    stepsTo s { s.memWrite 0xC001 0x66 with pc := 0x0101, result := some (.cycles 8) } = true := by decide

/-- R609, spec/95 V90. -/
theorem test_V90_LD_A_HLi :
    let s : State := ({ load 0x0100 [0x2A] with h := 0xFF, l := 0xFF, f := 0x00 }).memWrite 0xFFFF 0x12
    stepsTo s { s with a := 0x12, h := 0x00, l := 0x00, pc := 0x0101, result := some (.cycles 8) } = true := by decide

/-- R612, spec/95 V91. -/
theorem test_V91_LD_HLd_A :
    let s : State := { load 0x0200 [0x32] with a := 0x9E, h := 0x00, l := 0x00, f := 0x00 }
    stepsTo s { s.memWrite 0x0000 0x9E with
      h := 0xFF, l := 0xFF, pc := 0x0201, result := some (.cycles 8) } = true := by decide

/-- R614, spec/95 V92. -/
theorem test_V92_LDH_a8_A :
    let s : State := { load 0x0100 [0xE0, 0x80] with a := 0x55, f := 0x00 }
    stepsTo s { s.memWrite 0xFF80 0x55 with pc := 0x0102, result := some (.cycles 12) } = true := by decide

/-- R615, spec/95 V93. -/
theorem test_V93_LDH_A_a8 :
    let s : State := ({ load 0x0100 [0xF0, 0xFF] with f := 0x00 }).memWrite 0xFFFF 0x1F
    stepsTo s { s with a := 0x1F, pc := 0x0102, result := some (.cycles 12) } = true := by decide

/-- R616, spec/95 V94. -/
theorem test_V94_LD_C_A :
    let s : State := { load 0x0100 [0xE2] with a := 0x11, c := 0x9F, f := 0x00 }
    stepsTo s { s.memWrite 0xFF9F 0x11 with pc := 0x0101, result := some (.cycles 8) } = true := by decide

/-- R617, spec/95 V95. -/
theorem test_V95_LD_A_C :
    let s : State := ({ load 0x0100 [0xF2] with c := 0x00, f := 0x00 }).memWrite 0xFF00 0xCF
    stepsTo s { s with a := 0xCF, pc := 0x0101, result := some (.cycles 8) } = true := by decide

/-- R618, spec/95 V96. -/
theorem test_V96_LD_A_a16 :
    let s : State := ({ load 0x0100 [0xFA, 0x34, 0x12] with f := 0x00 }).memWrite 0x1234 0xAA
    stepsTo s { s with a := 0xAA, pc := 0x0103, result := some (.cycles 16) } = true := by decide

/-- R619, spec/95 V97. -/
theorem test_V97_LD_a16_A :
    let s : State := { load 0x0100 [0xEA, 0x00, 0xC0] with a := 0x42, f := 0x00 }
    stepsTo s { s.memWrite 0xC000 0x42 with pc := 0x0103, result := some (.cycles 16) } = true := by decide

/-- R620, spec/95 V99. -/
theorem test_V99_LD_BC_n16 :
    let s : State := { load 0x0100 [0x01, 0x34, 0x12] with f := 0x00 }
    stepsTo s { s with b := 0x12, c := 0x34, pc := 0x0103, result := some (.cycles 12) } = true := by decide

/-- R621, spec/95 V101. -/
theorem test_V101_LD_a16_SP :
    let s : State := { load 0x0100 [0x08, 0xFF, 0xFF] with sp := 0x1234, f := 0x00 }
    stepsTo s { (s.memWrite 0x0000 0x12).memWrite 0xFFFF 0x34 with
      pc := 0x0103, result := some (.cycles 20) } = true := by decide

/-- R622, spec/95 V102. -/
theorem test_V102_LD_SP_HL :
    let s : State := { load 0x0100 [0xF9] with h := 0xC0, l := 0xDE, f := 0x00 }
    stepsTo s { s with sp := 0xC0DE, pc := 0x0101, result := some (.cycles 8) } = true := by decide

/-- R650, spec/95 V105. -/
theorem test_V105_JR_e8 :
    let s : State := load 0xFFFE [0x18, 0x01]
    stepsTo s { s with pc := 0x0001, result := some (.cycles 12) } = true := by decide

/-- R651, spec/95 V106. -/
theorem test_V106_JR_NZ_e8 :
    let s : State := { load 0x0200 [0x20, 0xFB] with f := 0x00 }
    stepsTo s { s with pc := 0x01FD, result := some (.cycles 12) } = true := by decide

/-- R651, spec/95 V107. -/
theorem test_V107_JR_NZ_e8 :
    let s : State := { load 0x0200 [0x20, 0xFB] with f := 0x80 }
    stepsTo s { s with pc := 0x0202, result := some (.cycles 8) } = true := by decide

/-- R653, spec/95 V110. -/
theorem test_V110_JP_Z_a16 :
    let s : State := { load 0x0100 [0xCA, 0x00, 0x80] with f := 0x80 }
    stepsTo s { s with pc := 0x8000, result := some (.cycles 16) } = true := by decide

/-- R653, spec/95 V111. -/
theorem test_V111_JP_NC_a16 :
    let s : State := { load 0x0100 [0xD2, 0x00, 0x80] with f := 0x10 }
    stepsTo s { s with pc := 0x0103, result := some (.cycles 12) } = true := by decide

/-- R654, spec/95 V112. -/
theorem test_V112_JP_HL :
    let s : State := { load 0x0100 [0xE9] with h := 0x80, l := 0x00 }
    stepsTo s { s with pc := 0x8000, result := some (.cycles 4) } = true := by decide

/-- R655, spec/95 V114. -/
theorem test_V114_CALL_a16 :
    let s : State := { load 0x8000 [0xCD, 0x34, 0x12] with sp := 0x0001 }
    stepsTo s { (s.memWrite 0x0000 0x80).memWrite 0xFFFF 0x03 with
      sp := 0xFFFF, pc := 0x1234, result := some (.cycles 24) } = true := by decide

/-- R656, spec/95 V115. -/
theorem test_V115_CALL_C_a16 :
    let s : State := { load 0x8000 [0xDC, 0x34, 0x12] with f := 0x00 }
    stepsTo s { s with pc := 0x8003, result := some (.cycles 12) } = true := by decide

/-- R656, spec/95 V116. -/
theorem test_V116_CALL_NZ_a16 :
    let s : State := { load 0x8000 [0xC4, 0x00, 0x20] with f := 0x00, sp := 0xFFFE }
    stepsTo s { (s.memWrite 0xFFFC 0x03).memWrite 0xFFFD 0x80 with
      sp := 0xFFFC, pc := 0x2000, result := some (.cycles 24) } = true := by decide

/-- R657, spec/95 V118. -/
theorem test_V118_RET :
    let s : State := (({ load 0x0100 [0xC9] with sp := 0xFFFF }).memWrite 0xFFFF 0x34).memWrite 0x0000 0x12
    stepsTo s { s with sp := 0x0001, pc := 0x1234, result := some (.cycles 16) } = true := by decide

/-- R658, spec/95 V119. -/
theorem test_V119_RET_NZ :
    let s : State := { load 0x0100 [0xC0] with f := 0x80 }
    stepsTo s { s with pc := 0x0101, result := some (.cycles 8) } = true := by decide

/-- R658, spec/95 V120. -/
theorem test_V120_RET_Z :
    let s : State := (({ load 0x0100 [0xC8] with f := 0x80, sp := 0xFFFC }).memWrite 0xFFFC 0x00).memWrite 0xFFFD 0x02
    stepsTo s { s with sp := 0xFFFE, pc := 0x0200, result := some (.cycles 20) } = true := by decide

/-- R659, spec/95 V121. -/
theorem test_V121_RETI :
    let s : State := (({ load 0x0100 [0xD9] with sp := 0xFFFC, ime := false }).memWrite 0xFFFC 0x50).memWrite 0xFFFD 0x01
    stepsTo s { s with sp := 0xFFFE, pc := 0x0150, ime := true, result := some (.cycles 16) } = true := by decide

/-- R660, spec/95 V122. -/
theorem test_V122_RST_0x38 :
    let s : State := { load 0x0150 [0xFF] with sp := 0xFFFE }
    stepsTo s { (s.memWrite 0xFFFC 0x51).memWrite 0xFFFD 0x01 with
      sp := 0xFFFC, pc := 0x0038, result := some (.cycles 16) } = true := by decide

/-- R702, spec/95 V125. -/
theorem test_V125_PUSH_AF :
    let s : State := { load 0x0100 [0xF5] with sp := 0x0000, a := 0xAB, f := 0xF0 }
    stepsTo s { (s.memWrite 0xFFFE 0xF0).memWrite 0xFFFF 0xAB with
      sp := 0xFFFE, pc := 0x0101, result := some (.cycles 16) } = true := by decide

/-- R703, spec/95 V127. -/
theorem test_V127_POP_HL :
    let s : State := (({ load 0x0100 [0xE1] with sp := 0xFFFF }).memWrite 0xFFFF 0xCD).memWrite 0x0000 0xAB
    stepsTo s { s with h := 0xAB, l := 0xCD, sp := 0x0001, pc := 0x0101, result := some (.cycles 12) } = true := by decide

/-- R704, spec/95 V128. -/
theorem test_V128_POP_AF :
    let s : State := (({ load 0x0100 [0xF1] with sp := 0xFFFC }).memWrite 0xFFFC 0xFF).memWrite 0xFFFD 0x12
    stepsTo s { s with a := 0x12, f := 0xF0, sp := 0xFFFE, pc := 0x0101, result := some (.cycles 12) } = true := by decide

/-- R750, spec/95 V131. -/
theorem test_V131_NOP :
    let s : State := load 0xFFFF [0x00]
    stepsTo s { s with pc := 0x0000, result := some (.cycles 4) } = true := by decide

/-- R753, spec/95 V132. -/
theorem test_V132_HALT :
    let s : State := load 0x0150 [0x76]
    stepsTo s { s with pc := 0x0151, run := .halted, result := some (.cycles 4) } = true := by decide

/-- R754, spec/95 V135. -/
theorem test_V135_STOP_second_byte_0xFF :
    let s : State := load 0x0100 [0x10, 0xFF]
    stepsTo s { s with pc := 0x0102, run := .stopped, result := some (.cycles 4) } = true := by decide

/-- R756, spec/95 V136. -/
theorem test_V136_DI :
    let s : State := { load 0x0100 [0xF3] with ime := true }
    stepsTo s { s with pc := 0x0101, ime := false, result := some (.cycles 4) } = true := by decide

/-- R757, spec/95 V137. -/
theorem test_V137_EI :
    let s : State := { load 0x0100 [0xFB] with ime := false }
    stepsTo s { s with pc := 0x0101, eiPending := true, result := some (.cycles 4) } = true := by decide

/-- R752, spec/95 V142. -/
theorem test_V142_illegal_0xD3 :
    let s : State := load 0x0200 [0xD3]
    stepsTo s { s with
      pc := 0x0201, run := .haltedError, err := some ⟨0xD3, 0x0200⟩, result := some (.error ⟨0xD3, 0x0200⟩) } = true := by decide

/-- R301, R111: an instruction across the top of the address space: CALL at 0xFFFE, its high byte at 0x0000. -/
theorem test_fetch_wraps :
    let s : State := ((load 0xFFFE [0xC3, 0x50]).memWrite 0x0000 0x01)
    stepsTo s { s with pc := 0x0150, result := some (.cycles 16) } = true := by decide

/-- R902: the step after EI sets IME at its end (V138's second step). -/
theorem test_V138_second_step :
    let s : State := { load 0x0101 [0x00] with eiPending := true }
    stepsTo s { s with pc := 0x0102, ime := true, eiPending := false, result := some (.cycles 4) } = true := by decide

/-- R756: DI in the step after EI leaves IME clear (V139's second step). -/
theorem test_V139_second_step :
    let s : State := { load 0x0101 [0xF3] with eiPending := true }
    stepsTo s { s with pc := 0x0102, eiPending := false, result := some (.cycles 4) } = true := by decide

/-- R757: EI in the step after EI: both (V140's second step). -/
theorem test_V140_second_step :
    let s : State := { load 0x0101 [0xFB] with eiPending := true }
    stepsTo s { s with pc := 0x0102, ime := true, result := some (.cycles 4) } = true := by decide

/-- R801, R902: an illegal byte in the step after EI: the latch is lost (V143's second step). -/
theorem test_V143_second_step :
    let s : State := { load 0x0201 [0xFD] with eiPending := true }
    stepsTo s { s with
      pc := 0x0202, eiPending := false, run := .haltedError, err := some ⟨0xFD, 0x0201⟩
      result := some (.error ⟨0xFD, 0x0201⟩) } = true := by decide

/-- R805: a step in HaltedError (V144's second step, and V155 with WAKE asserted). -/
theorem test_V155_error_repeats :
    let s : State := { load 0x0201 [0x00] with
      run := .haltedError, err := some ⟨0xD3, 0x0200⟩, inputs := [⟨true, none⟩] }
    stepsTo s { s with inputs := [], result := some (.error ⟨0xD3, 0x0200⟩) } = true := by decide

/-- R901: a sleeping step (V133's second step). -/
theorem test_V133_second_step :
    let s : State := { load 0x0151 [0x3C] with run := .halted }
    stepsTo s { s with result := some (.cycles 4) } = true := by decide

/-- R901, V153: WAKE in Halted. -/
theorem test_V153_wake_in_halted :
    let s : State := { load 0x0151 [] with run := .halted, inputs := [⟨true, none⟩] }
    stepsTo s { s with run := .running, inputs := [], result := some (.cycles 4) } = true := by decide

/-- R901, V154: WAKE in Stopped. -/
theorem test_V154_wake_in_stopped :
    let s : State := { load 0x0102 [] with run := .stopped, inputs := [⟨true, none⟩] }
    stepsTo s { s with run := .running, inputs := [], result := some (.cycles 4) } = true := by decide

/-- R808, V145: dispatch from Running. -/
theorem test_V145_dispatch :
    let s : State := withIrq (load 0x0150 []) 0x05 0x04 true
    stepsTo s { ((s.memWrite 0xFF0F 0x00).memWrite 0xFFFC 0x50).memWrite 0xFFFD 0x01 with
      ime := false, sp := 0xFFFC, pc := 0x0050, result := some (.cycles 20) } = true := by decide

/-- R808, V146: the lowest set bit wins. -/
theorem test_V146_lowest_bit_wins :
    let s : State := withIrq (load 0x0150 []) 0x1F 0x12 true
    stepsTo s { ((s.memWrite 0xFF0F 0x10).memWrite 0xFFFC 0x50).memWrite 0xFFFD 0x01 with
      ime := false, sp := 0xFFFC, pc := 0x0048, result := some (.cycles 20) } = true := by decide

/-- R808, V147: wake from Halted with IME = 0. -/
theorem test_V147_wake_without_dispatch :
    let s : State := { withIrq (load 0x0151 []) 0x01 0x01 false with run := .halted }
    stepsTo s { s with run := .running, result := some (.cycles 4) } = true := by decide

/-- R808, V148: dispatch from Halted with IME = 1. -/
theorem test_V148_dispatch_from_halted :
    let s : State := { withIrq (load 0x0151 []) 0x01 0x01 true with run := .halted }
    stepsTo s { ((s.memWrite 0xFF0F 0x00).memWrite 0xFFFC 0x51).memWrite 0xFFFD 0x01 with
      run := .running, ime := false, sp := 0xFFFC, pc := 0x0040, result := some (.cycles 20) } = true := by decide

/-- R808, V149: requested but not enabled. -/
theorem test_V149_not_enabled :
    let s : State := withIrq (load 0x0100 []) 0x00 0x1F true
    stepsTo s { s with pc := 0x0101, result := some (.cycles 4) } = true := by decide

/-- R808, V150: Stopped ignores interrupts. -/
theorem test_V150_stopped_ignores_interrupts :
    let s : State := { withIrq (load 0x0150 []) 0x01 0x01 true with run := .stopped }
    stepsTo s { s with result := some (.cycles 4) } = true := by decide

/-- R808, R902, V151's third step: the dispatch after EI and NOP. -/
theorem test_V151_third_step :
    let s : State := withIrq (load 0x0152 []) 0x01 0x01 true
    stepsTo s { ((s.memWrite 0xFF0F 0x00).memWrite 0xFFFC 0x52).memWrite 0xFFFD 0x01 with
      ime := false, sp := 0xFFFC, pc := 0x0040, result := some (.cycles 20) } = true := by decide

/-- R819: the host's write of IF before a step is seen by it; its bits 7 to 5 stay. -/
theorem test_host_request :
    let s : State := { withIrq (load 0x0150 []) 0x01 0xE0 true with inputs := [⟨false, some 0x01⟩] }
    stepsTo s { (s.memWrite 0xFFFC 0x50).memWrite 0xFFFD 0x01 with
      ime := false, sp := 0xFFFC, pc := 0x0040, inputs := [], result := some (.cycles 20) } = true := by decide

/-- R807: with IRQ_MODEL = absent nothing is dispatched. -/
theorem test_absent_dispatches_nothing :
    let s : State := { withIrq (load 0x0100 []) 0x1F 0x1F true with params := .default }
    stepsTo s { s with pc := 0x0101, result := some (.cycles 4) } = true := by decide

/-- R128, R129, R960: the power-on state. -/
theorem test_reset : State.reset.af = 0x01B0 ∧ State.reset.hl = 0x014D ∧ State.reset.pc = 0x0000 ∧
    State.reset.run = .running := by decide

/-- R10, R952: the frame budget. -/
theorem test_frameBudget : Config.frameBudget = 69905 := by decide

/-- R951: a frame that ends in an error on its first step. -/
theorem test_frame_error : (runFrame (load 0x0000 [0xD3])).1 = .frameError ⟨0xD3, 0x0000⟩ 0 := by decide

/-! ## Witnesses: a concrete state and operands that meet the hypotheses of each statement that has any -/

/-- A state with the invariant and some memory. -/
def running : State := load 0x0150 [0x3E, 0x05]

/-- A state in HaltedError. -/
def errored : State := { running with run := .haltedError, err := some ⟨0xD3, 0x014F⟩ }

/-- A machine with a pending, enabled interrupt and IME set. -/
def interrupted : State := withIrq running 0x11 0x11 true

/-- An image of 65,536 bytes whose first and last bytes are set. -/
theorem test_witness_image : ([0x3E] ++ List.replicate 65534 0x00 ++ [0xFF] : List Byte).length = 65536 := by
  rw [List.length_append, List.length_append, List.length_replicate]
  rfl

/-- RegisterWriteChangesOnlyItself: two registers. -/
theorem test_witness_two_registers : R8.l ≠ R8.a := by decide

/-- MemoryReadsTheLastWrite, WordAccessIsLittleEndian, StoresByte, StoresWord, Alu8Laws, RotateAndBitLaws, MemoryFrame:
canonical memory, empty, with a byte, and with bytes at both ends of the address space. -/
theorem test_witness_canonical : State.reset.mem.wf = true ∧ running.mem.wf = true ∧
    Memory.wf [(0x0000, 0x12), (0xFFFF, 0x34)] = true := by decide

/-- MemoryReadsTheLastWrite and WordAccessIsLittleEndian: an address apart from the written ones, at the wrap. -/
theorem test_witness_other_address : (0x0001 : Word) ≠ 0xFFFF ∧ (0x0001 : Word) ≠ 0xFFFF + 1 := by decide

/-- CanonicalMemoriesThatReadTheSameAreEqual: canonical memories that read the same. -/
theorem test_witness_same_reads :
    let m : Memory := (running.memWrite 0xC000 0x07).mem
    let m' : Memory := ((running.memWrite 0xC000 0x08).memWrite 0xC000 0x07).mem
    m.wf = true ∧ m'.wf = true ∧ ∀ x : Word, m.readAt x.toNat = m'.readAt x.toNat := by
  refine ⟨by decide, by decide, fun x => ?_⟩
  rw [show ((running.memWrite 0xC000 0x08).memWrite 0xC000 0x07).mem = (running.memWrite 0xC000 0x07).mem by decide]

/-- DecodeOfEncodeIsTheInstruction: well-formed instructions of each length. -/
theorem test_witness_wellFormed : Instr.halt.wellFormed = true ∧ (Instr.stop 0xFF).wellFormed = true ∧
    (Instr.set_7_A).wellFormed = true ∧ (Instr.ld_ma16_SP 0xFFFF).wellFormed = true := by decide

/-- EncodeOfDecodeIsTheBytes: bytes that decode, with some left. -/
theorem test_witness_decodes : decode [0x08, 0xFF, 0xFF, 0x00] = .ok (.ld_ma16_SP 0xFFFF, [0x00]) := rfl

/-- DaaGivesTheDecimalResult: the largest and the smallest digits, from a register and an immediate. -/
theorem test_witness_decimal :
    (99 < 100 ∧ 0 < 100) ∧
    (let s : State := { running with a := 0x99, b := 0x99 };
      s.a = bcd 99 ∧ s.getSrc (.opnd (.reg .b)) = bcd 99) ∧
    (let s : State := { running with a := 0x00 };
      s.a = bcd 0 ∧ s.getSrc (.imm 0x99) = bcd 99) := by decide

/-- LoadsMoveAByte: a form of LD that is not HALT's. -/
theorem test_witness_load_form : ¬(Opnd8.mHL = .mHL ∧ Opnd8.reg .a = .mHL) ∧ ¬(Opnd8.reg .b = .mHL ∧ Opnd8.mHL = .mHL) := by
  decide

/-- RelativeJumpLaw: displacements at the ends of the range, and two jumps that meet. -/
theorem test_witness_displacement : (0x7F : Byte) ≠ 0x80 ∧ (0x81 : Byte) ≠ 0x80 ∧
    (running.jumpRelative 0x7F).pc = (State.jumpRelative { running with a := 0x00 } 0x7F).pc := by decide

/-- MemoryFrame: a prefix byte of a (HL) entry that stores, and one of a (HL) entry that does not (BIT 0,(HL)). -/
theorem test_witness_prefix_stores : (opZ 0xC6 = 6 ∧ opX 0xC6 ≠ 1) ∧ ¬(opZ 0x46 = 6 ∧ opX 0x46 ≠ 1) := by decide

/-- CallsPushTheReturnAddress and MemoryFrame: each condition true, and false. -/
theorem test_witness_conditions :
    (let s : State := { running with f := 0x00 };
      s.cond .nz = true ∧ s.cond .nc = true ∧ s.cond .z = false ∧ s.cond .c = false) ∧
    (let s : State := { running with f := 0x90 };
      s.cond .z = true ∧ s.cond .c = true ∧ s.cond .nz = false ∧ s.cond .nc = false) := by decide

/-- PopUndoesPush: canonical memory and a masked F, SP at the wrap. -/
theorem test_witness_push :
    let s : State := { running with sp := 0x0001 }
    s.mem.wf = true ∧ s.f &&& 0x0F = 0 := by decide

/-- IllegalOpcodesRaise, clauses 2 and 3: bytes that decode, and rows of the illegal table. -/
theorem test_witness_illegal_rows :
    decode [0xD3, 0x00, 0x00] = .ok (.illegal_D3, [0x00, 0x00]) ∧
    (0xD3, Instr.illegal_D3) ∈ illegalBytes.zip illegalInstrs ∧
    (0xFD, Instr.illegal_FD) ∈ illegalBytes.zip illegalInstrs := ⟨rfl, by decide, by decide⟩

/-- IllegalOpcodesRaise, clauses 4 and 5: a step that executes an illegal byte, at the top of memory. -/
theorem test_witness_illegal_step :
    let s : State := load 0xFFFF [0xFD]
    s.takeInput.Executes ∧ s.takeInput.memRead s.takeInput.pc = 0xFD ∧ (0xFD : Byte) ∈ illegalBytes ∧ s.run ≠ .haltedError ∧
    stepsTo s { s with
      run := .haltedError, err := some ⟨0xFD, 0xFFFF⟩, pc := 0x0000, result := some (.error ⟨0xFD, 0xFFFF⟩) } = true :=
  ⟨⟨rfl, rfl, fun h => absurd h.1 (by decide)⟩, by decide, by decide, by decide, by decide⟩

/-- HaltAndStopSleepUntilWoken: sleeping states under both interrupt models, and inputs of both kinds. -/
theorem test_witness_sleeping :
    (let s : State := { running with run := .halted };
      s.takeInput.params.irqModel ≠ .gbStandard ∧ s.input.ifBits = none) ∧
    (let s : State := { withIrq running 0x01 0x10 true with run := .halted };
      s.takeInput.params.irqModel = .gbStandard ∧
      (s.takeInput.memRead 0xFFFF &&& s.takeInput.memRead 0xFF0F &&& 0x1F) = 0) ∧
    (let s : State := { interrupted with run := .stopped, inputs := [⟨true, none⟩] };
      s.run = .stopped ∧ s.input.ifBits = none) ∧
    (let s : State := { running with inputs := [⟨false, some 0x1F⟩] };
      s.params.irqModel = .absent) := by decide

/-- ResetHasTheInvariant's invariant, and the invariant in every other run state: HaltAndStopSleepUntilWoken,
EveryStepReturnsCyclesOrError, EveryStepKeepsTheInvariant, FramesEndWithinTheirBounds. -/
theorem test_witness_invariant :
    running.Inv ∧ errored.Inv ∧ State.Inv { interrupted with run := .halted } ∧
    State.Inv { running with run := .stopped } ∧ State.Inv { running with eiPending := true } := by
  refine ⟨?_, ?_, ?_, ?_, ?_⟩ <;> constructor <;> decide

/-- EveryStepKeepsTheInvariant: a step from such a state. -/
theorem test_witness_step :
    stepsTo running { running with a := 0x05, pc := 0x0152, result := some (.cycles 8) } = true := by decide

/-- EiIsDelayedByOneInstruction, StepRunsTheDecodedInstruction: executing states, under both interrupt models, whose
bytes decode: an instruction of each length, one across the wrap, DI, EI, RETI and an illegal byte. -/
theorem test_witness_executes :
    running.takeInput.Executes ∧ (withIrq running 0x01 0x10 true).takeInput.Executes ∧
    (withIrq running 0x01 0x01 false).takeInput.Executes ∧
    decode running.takeInput.code = .ok (.ld_A_n8 0x05, [0x00]) ∧
    decode ((load 0xFFFE [0xC3, 0x50]).memWrite 0x0000 0x01).takeInput.code = .ok (.jp_a16 0x0150, []) ∧
    decode (load 0x0100 [0xF3]).takeInput.code = .ok (.di, [0x00, 0x00]) ∧
    decode (load 0x0100 [0xFB]).takeInput.code = .ok (.ei, [0x00, 0x00]) ∧
    decode (load 0x0100 [0xD9]).takeInput.code = .ok (.reti, [0x00, 0x00]) ∧
    decode (load 0x0100 [0xD3]).takeInput.code = .ok (.illegal_D3, [0x00, 0x00]) :=
  ⟨⟨rfl, rfl, fun h => absurd h.1 (by decide)⟩, ⟨rfl, rfl, fun h => absurd h.2.1 (by decide)⟩,
    ⟨rfl, rfl, fun h => absurd h.2.2 (by decide)⟩, rfl, rfl, rfl, rfl, rfl, rfl⟩

/-- EiIsDelayedByOneInstruction, InterruptsAreDispatched clause 1: dispatching states, Running and Halted, whose lowest
request is source 0 and source 4. -/
theorem test_witness_dispatches :
    interrupted.takeInput.Dispatches ∧ interrupted.takeInput.run = .running ∧
    State.Dispatches ({ withIrq running 0xF0 0x1F true with run := .halted } : State).takeInput ∧
    (let t : State := interrupted.takeInput;
      (t.memRead 0xFFFF &&& t.memRead 0xFF0F).getLsbD 0 = true) ∧
    (let t : State := ({ withIrq running 0xF0 0x1F true with run := .halted } : State).takeInput;
      t.run = .halted ∧ (t.memRead 0xFFFF &&& t.memRead 0xFF0F).getLsbD 4 = true ∧
      ∀ j < 4, (t.memRead 0xFFFF &&& t.memRead 0xFF0F).getLsbD j = false) :=
  ⟨⟨rfl, by decide, rfl⟩, rfl, ⟨rfl, by decide, rfl⟩, by decide, by decide⟩

/-- InterruptsAreDispatched, clauses 2 and 3: Halted with IME = 0 and a request, and Stopped with WAKE not asserted. -/
theorem test_witness_wakes :
    (let t : State := ({ interrupted with run := .halted, ime := false } : State).takeInput;
      t.params.irqModel = .gbStandard ∧ (t.memRead 0xFFFF &&& t.memRead 0xFF0F &&& 0x1F) ≠ 0 ∧ t.run = .halted ∧
      t.ime = false) ∧
    (let s : State := { interrupted with run := .stopped };
      s.takeInput.run = .stopped ∧ s.input.wake = false) := by decide

/-- HaltedErrorIsTerminal: HaltedError with its record, with no IF input, with one under IRQ_MODEL = absent, and with one
under gb_standard, each with canonical memory; and an address that is not IF's. -/
theorem test_witness_errored :
    (errored.run = .haltedError ∧ errored.err = some ⟨0xD3, 0x014F⟩ ∧ errored.mem.wf = true ∧
      ∀ x ∈ errored.inputs, x.ifBits = none) ∧
    (let s : State := { errored with inputs := [⟨true, some 0x01⟩] };
      s.run = .haltedError ∧ s.err = some ⟨0xD3, 0x014F⟩ ∧ s.params.irqModel = .absent) ∧
    (let s : State := { withIrq errored 0x01 0x00 true with inputs := [⟨true, some 0x01⟩] };
      s.run = .haltedError ∧ s.err = some ⟨0xD3, 0x014F⟩ ∧ s.mem.wf = true) ∧
    (0xFF0E : Word) ≠ 0xFF0F := by decide

/-- R805, R819: a step in HaltedError under gb_standard, with the host's write of IF before it. -/
theorem test_error_repeats_with_host_request :
    let s : State := { withIrq errored 0x01 0x00 true with inputs := [⟨true, some 0x01⟩] }
    stepsTo s { s.memWrite 0xFF0F 0x01 with
      inputs := [], result := some (.error ⟨0xD3, 0x014F⟩) } = true := by decide

/-- WithoutInterruptsImeIsReadByNothing: the parameter. -/
theorem test_witness_absent : State.reset.params.irqModel = .absent := by decide

/-- HostInputReachesOnlyIf: canonical memory, the interrupt model and an input for IF. -/
theorem test_witness_host_input :
    let s : State := { interrupted with inputs := [⟨false, some 0x1F⟩] }
    s.mem.wf = true ∧ s.params.irqModel = .gbStandard ∧ s.input.ifBits = some 0x1F := by decide

/-- FramesEndWithinTheirBounds: bounds on the steps, the least and a larger one. -/
theorem test_witness_fuel : 17477 ≥ frameStepBound ∧ 20000 ≥ frameStepBound := by decide

/-- FramesEndWithinTheirBounds, the frame of NOPs: a running machine whose memory is all zero. -/
theorem test_witness_nops : State.reset.run = .running ∧ State.reset.mode = .primary ∧
    State.reset.params.irqModel = .absent ∧ ∀ x : Word, State.reset.memRead x = 0x00 :=
  ⟨rfl, rfl, rfl, fun _ => rfl⟩

end Sys2Proof.Tests
end

/-! PROOFS. The operations of spec/00_scope.md: the flag update `flags(z, n, h, c)` (R17), every write to F (R114), and the
16-bit memory accesses (R14). The rule for a read after a word write stands here once. -/

namespace Sys2Proof.Machine

/-! ## Writes to F -/

/-- A write to F leaves bits 3 to 0 zero (R114). -/
theorem State.setF_low (s : State) (v : Byte) : (s.setF v).f &&& 0x0F = 0 := masked_low v

/-- A write to AF writes F through the mask (R104, R114). -/
@[simp] theorem State.setStk_af_f (s : State) (w : Word) : (s.setStk .af w).f = loByte w &&& 0xF0 := rfl

/-- A write to AF leaves bits 3 to 0 of F zero (R114). -/
theorem State.setStk_af_low (s : State) (w : Word) : (s.setStk .af w).f &&& 0x0F = 0 := by
  rw [State.setStk_af_f]; exact masked_low (loByte w)

/-- A flag update leaves bits 3 to 0 of F zero: it is a write to F (R17, R114). -/
theorem State.flags_low (s : State) (z n h c : Option Bool) : (s.flags z n h c).f &&& 0x0F = 0 := State.setF_low s _

/-! ## The flags after a flag update -/

@[simp] theorem State.flags_zf (s : State) (z n h c : Option Bool) : (s.flags z n h c).zf = z.getD s.zf := by
  rw [State.flags_eq]; exact flagByte_z ..

@[simp] theorem State.flags_nf (s : State) (z n h c : Option Bool) : (s.flags z n h c).nf = n.getD s.nf := by
  rw [State.flags_eq]; exact flagByte_n ..

@[simp] theorem State.flags_hf (s : State) (z n h c : Option Bool) : (s.flags z n h c).hf = h.getD s.hf := by
  rw [State.flags_eq]; exact flagByte_h ..

@[simp] theorem State.flags_cf (s : State) (z n h c : Option Bool) : (s.flags z n h c).cf = c.getD s.cf := by
  rw [State.flags_eq]; exact flagByte_c ..

/-- A flag update changes F only (R17). -/
theorem State.flags_frame (s : State) (z n h c : Option Bool) :
    s.flags z n h c = { s with f := (s.flags z n h c).f } := rfl

/-! ## Memory: a read after a write -/

/-- The second address of a 16-bit access is never its first, at the wrap either. -/
theorem addr_succ_ne (a : Word) : a + 1 ≠ a := by bv_omega

/-- A read after a word write: the low byte at `a`, the high byte at `a + 1` modulo 2^16, the old byte elsewhere (R14). -/
theorem State.memRead_memWrite16 {s : State} (hwf : s.mem.wf = true) (a v x : Word) :
    (s.memWrite16 a v).memRead x =
      if x = a then loByte v else if x = a + 1 then hiByte v else s.memRead x := by
  have hlow : (s.memWrite a (loByte v)).mem.wf = true := State.memWrite_keeps_wf a _ hwf
  rw [State.memWrite16, State.memRead_memWrite hlow, State.memRead_memWrite hwf]
  split
  · next hx => rw [hx, if_neg (addr_succ_ne a)]
  · rfl

theorem State.memWrite16_memRead_low {s : State} (hwf : s.mem.wf = true) (a v : Word) :
    (s.memWrite16 a v).memRead a = loByte v := by
  rw [State.memRead_memWrite16 hwf, if_pos rfl]

theorem State.memWrite16_memRead_high {s : State} (hwf : s.mem.wf = true) (a v : Word) :
    (s.memWrite16 a v).memRead (a + 1) = hiByte v := by
  rw [State.memRead_memWrite16 hwf, if_neg (addr_succ_ne a), if_pos rfl]

theorem State.memWrite16_memRead_other {s : State} (hwf : s.mem.wf = true) {a x : Word} (v : Word)
    (hlow : x ≠ a) (hhigh : x ≠ a + 1) : (s.memWrite16 a v).memRead x = s.memRead x := by
  rw [State.memRead_memWrite16 hwf, if_neg hlow, if_neg hhigh]

/-- A word read gives back the word written at its address (R14). -/
theorem State.memWrite16_memRead16 {s : State} (hwf : s.mem.wf = true) (a v : Word) :
    (s.memWrite16 a v).memRead16 a = v := by
  rw [State.memRead16, State.memWrite16_memRead_high hwf, State.memWrite16_memRead_low hwf, wordOf_hiByte_loByte]

/-- A word read is the byte at `a + 1` times 256 plus the byte at `a` (R14, R204). -/
theorem State.memRead16_toNat (s : State) (a : Word) :
    (s.memRead16 a).toNat = (s.memRead (a + 1)).toNat * 256 + (s.memRead a).toNat :=
  wordOf_toNat _ _

end Sys2Proof.Machine

/-! ## The obligations -/

namespace Sys2Proof.Proofs
open Sys2Proof.Machine

/-- Settles O8: the bytes after a word write are read off by the one rule for a read after it; the rest is the arithmetic
of a word and its two bytes. -/
theorem wordAccessIsLittleEndian : Obligations.WordAccessIsLittleEndian := by
  intro s a v
  refine ⟨State.memRead16_toNat s a, fun hwf => ⟨?_, ?_, ?_, ?_⟩, by decide⟩
  · rw [State.memWrite16_memRead_low hwf, loByte_toNat]
  · rw [State.memWrite16_memRead_high hwf, hiByte_toNat]
  · exact fun x hlow hhigh => State.memWrite16_memRead_other hwf v hlow hhigh
  · exact State.memWrite16_memRead16 hwf a v

/-- Settles O6: the new flags are the bits of the flag byte written, and the masks are those of a write to F or AF. -/
theorem flagWritesAreMaskedAndSeparate : Obligations.FlagWritesAreMaskedAndSeparate := by
  intro s z n h c v
  exact ⟨State.flags_zf .., State.flags_nf .., State.flags_hf .., State.flags_cf .., State.flags_low ..,
    State.flags_frame .., ⟨rfl, rfl, rfl, rfl⟩, State.setF_f s v, State.setF_low s v, State.setStk_af_low s⟩

end Sys2Proof.Proofs

/-! PROOFS. The state (spec/10_state.md): what an instruction can do to each part of the state, said once for every
instruction, and the invariant of the machine between steps. -/

namespace Sys2Proof.Machine

/-! ## The control state -/

/-- Everything a state holds beside its data (A to L, F and memory) and the result of the last step. -/
structure Control where
  sp : Word
  pc : Word
  ime : Bool
  eiPending : Bool
  apply : Bool
  run : RunState
  mode : DecoderMode
  err : Option IllegalOpcode
  params : Params
  inputs : List HostInput

/-- The control part of a state. -/
def State.control (s : State) : Control where
  sp := s.sp
  pc := s.pc
  ime := s.ime
  eiPending := s.eiPending
  apply := s.apply
  run := s.run
  mode := s.mode
  err := s.err
  params := s.params
  inputs := s.inputs

@[simp] theorem State.setR8_control (s : State) (r : R8) (v : Byte) : (s.setR8 r v).control = s.control := by
  simp [State.control]

end Sys2Proof.Machine

/-! ## What an instruction can do -/

namespace Sys2Proof
open Machine

/-- The instructions that may write SP (R107, R110). -/
inductive Instr.WritesSp : Instr → Prop where
  | ldN16 (n : Word) : Instr.WritesSp (.ld_SP_n16 n)
  | addSp (e : Byte) : Instr.WritesSp (.add_SP_e8 e)
  | ldSpHl : Instr.WritesSp .ld_SP_HL
  | inc : Instr.WritesSp .inc_SP
  | dec : Instr.WritesSp .dec_SP
  | push (r : R16Stk) : Instr.WritesSp (Instr.push r)
  | pop (r : R16Stk) : Instr.WritesSp (Instr.pop r)
  | call (a : Word) : Instr.WritesSp (.call_a16 a)
  | callCc (cc : Cond) (a : Word) : Instr.WritesSp (Instr.callCc cc a)
  | ret : Instr.WritesSp .ret
  | reti : Instr.WritesSp .reti
  | retCc (cc : Cond) : Instr.WritesSp (Instr.retCc cc)
  | rst (y : Fin 8) : Instr.WritesSp (Instr.rst y)

/-- The instructions that may write PC beyond the fetch (R107, R111). -/
inductive Instr.WritesPc : Instr → Prop where
  | jr (e : Byte) : Instr.WritesPc (.jr_e8 e)
  | jrCc (cc : Cond) (e : Byte) : Instr.WritesPc (Instr.jrCc cc e)
  | jp (a : Word) : Instr.WritesPc (.jp_a16 a)
  | jpCc (cc : Cond) (a : Word) : Instr.WritesPc (Instr.jpCc cc a)
  | jpHl : Instr.WritesPc .jp_HL
  | call (a : Word) : Instr.WritesPc (.call_a16 a)
  | callCc (cc : Cond) (a : Word) : Instr.WritesPc (Instr.callCc cc a)
  | ret : Instr.WritesPc .ret
  | reti : Instr.WritesPc .reti
  | retCc (cc : Cond) : Instr.WritesPc (Instr.retCc cc)
  | rst (y : Fin 8) : Instr.WritesPc (Instr.rst y)

/-- The instructions that may write F (R120). -/
inductive Instr.WritesF : Instr → Prop where
  | alu (op : AluOp) (src : AluSrc) : Instr.WritesF (Instr.alu op src)
  | inc8 (o : Opnd8) : Instr.WritesF (Instr.inc8 o)
  | dec8 (o : Opnd8) : Instr.WritesF (Instr.dec8 o)
  | addHL (r : R16) : Instr.WritesF (Instr.addHL r)
  | addSp (e : Byte) : Instr.WritesF (.add_SP_e8 e)
  | ldHlSp (e : Byte) : Instr.WritesF (.ld_HL_SPe8 e)
  | rlca : Instr.WritesF .rlca
  | rrca : Instr.WritesF .rrca
  | rla : Instr.WritesF .rla
  | rra : Instr.WritesF .rra
  | rot (op : RotOp) (o : Opnd8) : Instr.WritesF (Instr.rot op o)
  | bit (b : Fin 8) (o : Opnd8) : Instr.WritesF (Instr.bit b o)
  | daa : Instr.WritesF .daa
  | cpl : Instr.WritesF .cpl
  | scf : Instr.WritesF .scf
  | ccf : Instr.WritesF .ccf
  | popAf : Instr.WritesF .pop_AF
  | prefixCB (op2 : Byte) : Instr.WritesF (.prefixCB op2)

/-- What an instruction that is none of the system instructions may do from `s` to `t`: of the control state only SP and
PC change, and they and F only by the instructions that may write them; F is written masked, and memory stays canonical. -/
structure Instr.Effect (i : Instr) (s t : State) : Prop where
  control : t.control = { s.control with sp := t.sp, pc := t.pc }
  sp : t.sp = s.sp ∨ i.WritesSp
  pc : t.pc = s.pc ∨ i.WritesPc
  f : t.f = s.f ∨ (i.WritesF ∧ t.f &&& 0x0F = 0)
  mem : s.mem.wf = true → t.mem.wf = true

/-- A system instruction: what it does is its own operation (R659, R752 to R757). -/
inductive Instr.System (s : State) : Instr → State → Prop where
  | halt : Instr.System s .halt (haltOp s)
  | stop (x : Byte) : Instr.System s (.stop x) (stopOp s)
  | di : Instr.System s .di (diOp s)
  | ei : Instr.System s .ei (eiOp s)
  | reti : Instr.System s .reti (retiOp s)
  | illegal (op : Byte) (i : Instr) (h : (op, i) ∈ illegalTable) : Instr.System s i (s.raiseIllegal op)


section
variable {i : Instr} {s t u : State}

/-! ### Each update of the state keeps an effect -/

theorem Instr.Effect.refl : i.Effect s s := ⟨rfl, .inl rfl, .inl rfl, .inl rfl, id⟩

/-- A further update of data keeps an effect. -/
theorem Instr.Effect.data (h : i.Effect s u) (hc : t.control = u.control)
    (hf : t.f = u.f ∨ (i.WritesF ∧ t.f &&& 0x0F = 0)) (hm : u.mem.wf = true → t.mem.wf = true) : i.Effect s t := by
  have hsp : t.sp = u.sp := congrArg Control.sp hc
  have hpc : t.pc = u.pc := congrArg Control.pc hc
  refine ⟨by rw [hsp, hpc, hc]; exact h.control, hsp ▸ h.sp, hpc ▸ h.pc, ?_, hm ∘ h.mem⟩
  rcases hf with hf | hf
  · exact hf ▸ h.f
  · exact .inr hf

theorem Instr.Effect.flags (he : i.Effect s u) (hF : i.WritesF) (z n h c : Option Bool) :
    i.Effect s (u.flags z n h c) :=
  he.data rfl (.inr ⟨hF, State.flags_low ..⟩) id

theorem Instr.Effect.charge (h : i.Effect s u) (k : Nat) : i.Effect s (u.charge k) := h.data rfl (.inl rfl) id

theorem Instr.Effect.chargeExtended (h : i.Effect s u) (k : Nat) : i.Effect s (u.chargeExtended k) := by
  unfold State.chargeExtended
  split <;> exact h.charge _

theorem Instr.Effect.setR8 (h : i.Effect s u) (r : R8) (v : Byte) : i.Effect s (u.setR8 r v) :=
  h.data (State.setR8_control ..) (.inl (State.setR8_f ..)) (by rw [State.setR8_mem]; exact id)

theorem Instr.Effect.setHl (h : i.Effect s u) (v : Word) : i.Effect s (u.setHl v) := h.data rfl (.inl rfl) id

theorem Instr.Effect.memWrite (h : i.Effect s u) (x : Word) (v : Byte) : i.Effect s (u.memWrite x v) :=
  h.data rfl (.inl rfl) (State.memWrite_keeps_wf x v)

theorem Instr.Effect.putOpnd (h : i.Effect s u) (o : Opnd8) (v : Byte) : i.Effect s (u.putOpnd o v) := by
  cases o with
  | reg r => exact h.setR8 r v
  | mHL => exact h.memWrite u.hl v

theorem Instr.Effect.memAddrAfter (h : i.Effect s u) (m : R16Mem) : i.Effect s (u.memAddrAfter m) := by
  cases m with
  | bc | de => exact h
  | hlInc | hlDec => exact h.setHl _

theorem Instr.Effect.setSp (h : i.Effect s u) (hSp : i.WritesSp) (v : Word) : i.Effect s (u.setSp v) where
  control := congrArg (fun c : Control => { c with sp := v }) h.control
  sp := .inr hSp
  pc := h.pc
  f := h.f
  mem := h.mem

theorem Instr.Effect.setPc (h : i.Effect s u) (hPc : i.WritesPc) (v : Word) : i.Effect s (u.setPc v) where
  control := congrArg (fun c : Control => { c with pc := v }) h.control
  sp := h.sp
  pc := .inr hPc
  f := h.f
  mem := h.mem

theorem Instr.Effect.setR16 (h : i.Effect s u) (r : R16) (hSp : r = .sp → i.WritesSp) (v : Word) :
    i.Effect s (u.setR16 r v) := by
  cases r with
  | sp => exact h.setSp (hSp rfl) v
  | bc | de | hl => exact h.data rfl (.inl rfl) id

theorem Instr.Effect.setStk (h : i.Effect s u) (r : R16Stk) (hF : r = .af → i.WritesF) (v : Word) :
    i.Effect s (u.setStk r v) := by
  cases r with
  | af => exact h.data rfl (.inr ⟨hF rfl, State.setStk_af_low ..⟩) id
  | bc | de | hl => exact h.data rfl (.inl rfl) id

theorem Instr.Effect.push16 (h : i.Effect s u) (hSp : i.WritesSp) (v : Word) : i.Effect s (u.push16 v) :=
  .memWrite (.setSp (.memWrite (h.setSp hSp _) ..) hSp _) ..

theorem Instr.Effect.callTo (h : i.Effect s u) (hSp : i.WritesSp) (hPc : i.WritesPc) (a : Word) :
    i.Effect s (u.callTo a) :=
  (h.push16 hSp _).setPc hPc a

theorem Instr.Effect.returnFrom (h : i.Effect s u) (hSp : i.WritesSp) (hPc : i.WritesPc) : i.Effect s u.returnFrom :=
  ((h.setSp hSp _).setSp hSp _).setPc hPc _

/-- A conditional transfer has an effect when it has one taken and one not taken. -/
theorem Instr.Effect.ite {c : Prop} [Decidable c] (ht : i.Effect s t) (hu : i.Effect s u) :
    i.Effect s (if c then t else u) := by
  split
  · exact ht
  · exact hu

/-! ### The effect of the shared operations -/

theorem aluOp_effect (op : AluOp) (src : AluSrc) : (Instr.alu op src).Effect s (aluOp op src s) := by
  have hF := Instr.WritesF.alu op src
  unfold aluOp
  cases op with
  | cp => exact .charge (.flags .refl hF ..) _
  | _ => exact .charge (.flags (.setR8 .refl ..) hF ..) _

theorem rotOp_effect (hF : i.WritesF) (op : RotOp) (o : Opnd8) : i.Effect s (rotOp op o s) := by
  unfold rotOp
  exact .chargeExtended (.flags (.putOpnd .refl o _) hF ..) _

theorem bitOp_effect (hF : i.WritesF) (b : Fin 8) (o : Opnd8) : i.Effect s (bitOp b o s) := by
  unfold bitOp
  exact .chargeExtended (.flags .refl hF ..) _

theorem resOp_effect (b : Fin 8) (o : Opnd8) : i.Effect s (resOp b o s) := by
  unfold resOp
  exact .chargeExtended (.putOpnd .refl o _) _

theorem setOp_effect (b : Fin 8) (o : Opnd8) : i.Effect s (setOp b o s) := by
  unfold setOp
  exact .chargeExtended (.putOpnd .refl o _) _

theorem prefixOp_effect (op2 : Byte) : (Instr.prefixCB op2).Effect s (prefixOp op2 s) := by
  have hF := Instr.WritesF.prefixCB op2
  unfold prefixOp
  split
  · exact rotOp_effect hF ..
  · exact bitOp_effect hF ..
  · exact resOp_effect ..
  · exact setOp_effect ..

theorem rotAOp_effect (hF : i.WritesF) (op : RotOp) : i.Effect s (rotAOp op s) := by
  unfold rotAOp
  exact .charge (.flags (.setR8 .refl ..) hF ..) _

theorem popOp_effect (r : R16Stk) : (Instr.pop r).Effect s (popOp r s) := by
  simp only [popOp, State.pop16_fst, State.pop16_snd]
  exact .charge (.setStk (.setSp .refl (.pop r) _) r (by rintro rfl; exact .popAf) _) _

end

/-- What an instruction can do: it has an effect as described, or it is a system instruction. -/
theorem exec_cases (i : Instr) (s : State) : ∃ t, exec i s = .next t ∧ (i.Effect s t ∨ i.System s t) := by
  cases i.form with
  | alu op src => exact ⟨_, exec_alu .., .inl (aluOp_effect op src)⟩
  | inc8 o => exact ⟨_, exec_inc8 .., .inl (.charge (.flags (.putOpnd .refl o _) (.inc8 o) ..) _)⟩
  | dec8 o => exact ⟨_, exec_dec8 .., .inl (.charge (.flags (.putOpnd .refl o _) (.dec8 o) ..) _)⟩
  | inc16 r => exact ⟨_, exec_inc16 .., .inl (.charge (.setR16 .refl r (by rintro rfl; exact .inc) _) _)⟩
  | dec16 r => exact ⟨_, exec_dec16 .., .inl (.charge (.setR16 .refl r (by rintro rfl; exact .dec) _) _)⟩
  | addHL r => exact ⟨_, exec_addHL .., .inl (.charge (.flags (.setHl .refl _) (.addHL r) ..) _)⟩
  | add_SP_e8 e => exact ⟨_, rfl, .inl (.charge (.flags (.setSp .refl (.addSp e) _) (.addSp e) ..) _)⟩
  | ld_HL_SPe8 e => exact ⟨_, rfl, .inl (.charge (.flags (.setHl .refl _) (.ldHlSp e) ..) _)⟩
  | rlca => exact ⟨_, rfl, .inl (rotAOp_effect .rlca _)⟩
  | rrca => exact ⟨_, rfl, .inl (rotAOp_effect .rrca _)⟩
  | rla => exact ⟨_, rfl, .inl (rotAOp_effect .rla _)⟩
  | rra => exact ⟨_, rfl, .inl (rotAOp_effect .rra _)⟩
  | rot op o => exact ⟨_, exec_rot .., .inl (rotOp_effect (.rot op o) ..)⟩
  | bit b o => exact ⟨_, exec_bit .., .inl (bitOp_effect (.bit b o) ..)⟩
  | res b o => exact ⟨_, exec_res .., .inl (resOp_effect ..)⟩
  | set b o => exact ⟨_, exec_set .., .inl (setOp_effect ..)⟩
  | prefixCB op2 => exact ⟨_, rfl, .inl (prefixOp_effect op2)⟩
  | daa => exact ⟨_, rfl, .inl (.charge (.flags (.setR8 .refl ..) .daa ..) _)⟩
  | cpl => exact ⟨_, rfl, .inl (.charge (.flags (.setR8 .refl ..) .cpl ..) _)⟩
  | scf => exact ⟨_, rfl, .inl (.charge (.flags .refl .scf ..) _)⟩
  | ccf => exact ⟨_, rfl, .inl (.charge (.flags .refl .ccf ..) _)⟩
  | ld y z h => exact ⟨_, exec_ld _ _ h _, .inl (.charge (.putOpnd .refl y _) _)⟩
  | ldN8 y n => exact ⟨_, exec_ldN8 .., .inl (.charge (.putOpnd .refl y _) _)⟩
  | ldAMem m => exact ⟨_, exec_ldAMem .., .inl (.charge (.memAddrAfter (.setR8 .refl ..) m) _)⟩
  | ldMemA m => exact ⟨_, exec_ldMemA .., .inl (.charge (.memAddrAfter (.memWrite .refl ..) m) _)⟩
  | ldN16 r n => exact ⟨_, exec_ldN16 .., .inl (.charge (.setR16 .refl r (by rintro rfl; exact .ldN16 n) _) _)⟩
  | ldh_ma8_A a => exact ⟨_, rfl, .inl (.charge (.memWrite .refl ..) _)⟩
  | ldh_A_ma8 a => exact ⟨_, rfl, .inl (.charge (.setR8 .refl ..) _)⟩
  | ld_mC_A => exact ⟨_, rfl, .inl (.charge (.memWrite .refl ..) _)⟩
  | ld_A_mC => exact ⟨_, rfl, .inl (.charge (.setR8 .refl ..) _)⟩
  | ld_ma16_A a => exact ⟨_, rfl, .inl (.charge (.memWrite .refl ..) _)⟩
  | ld_A_ma16 a => exact ⟨_, rfl, .inl (.charge (.setR8 .refl ..) _)⟩
  | ld_ma16_SP a => exact ⟨_, rfl, .inl (.charge (.memWrite (.memWrite .refl ..) ..) _)⟩
  | ld_SP_HL => exact ⟨_, rfl, .inl (.charge (.setSp .refl .ldSpHl _) _)⟩
  | jr_e8 e => exact ⟨_, rfl, .inl (.charge (.setPc .refl (.jr e) _) _)⟩
  | jrCc cc e =>
    exact ⟨_, exec_jrCc .., .inl (.ite (.charge (.setPc .refl (.jrCc cc e) _) _) (.charge .refl _))⟩
  | jp_a16 a => exact ⟨_, rfl, .inl (.charge (.setPc .refl (.jp a) _) _)⟩
  | jpCc cc a =>
    exact ⟨_, exec_jpCc .., .inl (.ite (.charge (.setPc .refl (.jpCc cc a) _) _) (.charge .refl _))⟩
  | jp_HL => exact ⟨_, rfl, .inl (.charge (.setPc .refl .jpHl _) _)⟩
  | call_a16 a => exact ⟨_, rfl, .inl (.charge (.callTo .refl (.call a) (.call a) a) _)⟩
  | callCc cc a =>
    exact ⟨_, exec_callCc .., .inl (.ite (.charge (.callTo .refl (.callCc cc a) (.callCc cc a) a) _) (.charge .refl _))⟩
  | rst y => exact ⟨_, exec_rst .., .inl (.charge (.callTo .refl (.rst y) (.rst y) _) _)⟩
  | ret => exact ⟨_, rfl, .inl (.charge (.returnFrom .refl .ret .ret) _)⟩
  | retCc cc =>
    exact ⟨_, exec_retCc .., .inl (.ite (.charge (.returnFrom .refl (.retCc cc) (.retCc cc)) _) (.charge .refl _))⟩
  | push r => exact ⟨_, exec_push .., .inl (.charge (.push16 .refl (.push r) _) _)⟩
  | pop r => exact ⟨_, exec_pop .., .inl (popOp_effect r)⟩
  | nop => exact ⟨_, rfl, .inl (.charge .refl _)⟩
  | halt => exact ⟨_, rfl, .inr .halt⟩
  | stop x => exact ⟨_, rfl, .inr (.stop x)⟩
  | di => exact ⟨_, rfl, .inr .di⟩
  | ei => exact ⟨_, rfl, .inr .ei⟩
  | reti => exact ⟨_, rfl, .inr .reti⟩
  | illegal op i h => exact ⟨_, exec_illegal h s, .inr (.illegal op i h)⟩

/-- An instruction has one outcome. -/
theorem exec_unique {i : Instr} {s t u : State} (ht : exec i s = .next t) (hu : exec i s = .next u) : t = u := by
  rw [ht] at hu
  cases hu
  rfl

section
variable {i : Instr} {s t : State}

/-! ### The lists of instructions as the obligations write them -/

theorem Instr.WritesSp.rows (h : i.WritesSp) :
    (∃ n, i = .ld_SP_n16 n) ∨ (∃ e, i = .add_SP_e8 e) ∨ i = .ld_SP_HL ∨ i = .inc_SP ∨ i = .dec_SP ∨
    (∃ r, i = Instr.push r ∨ i = Instr.pop r) ∨ (∃ a, i = .call_a16 a) ∨ (∃ cc a, i = Instr.callCc cc a) ∨
    i = .ret ∨ i = .reti ∨ (∃ cc, i = Instr.retCc cc) ∨ ∃ y, i = Instr.rst y := by
  cases h with
  | push r => exact .inr (.inr (.inr (.inr (.inr (.inl ⟨r, .inl rfl⟩)))))
  | pop r => exact .inr (.inr (.inr (.inr (.inr (.inl ⟨r, .inr rfl⟩)))))
  | _ => simp

theorem Instr.WritesPc.rows (h : i.WritesPc) :
    (∃ e, i = .jr_e8 e) ∨ (∃ cc e, i = Instr.jrCc cc e) ∨ (∃ a, i = .jp_a16 a) ∨ (∃ cc a, i = Instr.jpCc cc a) ∨
    i = .jp_HL ∨ (∃ a, i = .call_a16 a) ∨ (∃ cc a, i = Instr.callCc cc a) ∨ i = .ret ∨ i = .reti ∨
    (∃ cc, i = Instr.retCc cc) ∨ ∃ y, i = Instr.rst y := by
  cases h <;> simp

theorem Instr.WritesF.rows (h : i.WritesF) :
    (∃ op src, i = Instr.alu op src) ∨ (∃ o, i = Instr.inc8 o) ∨ (∃ o, i = Instr.dec8 o) ∨
    (∃ r, i = Instr.addHL r) ∨ (∃ e, i = .add_SP_e8 e) ∨ (∃ e, i = .ld_HL_SPe8 e) ∨
    i = .rlca ∨ i = .rrca ∨ i = .rla ∨ i = .rra ∨ (∃ op o, i = Instr.rot op o) ∨ (∃ b o, i = Instr.bit b o) ∨
    i = .daa ∨ i = .cpl ∨ i = .scf ∨ i = .ccf ∨ i = .pop_AF ∨ ∃ op2, i = .prefixCB op2 := by
  cases h <;> simp

theorem mem_illegalInstrs {op : Byte} (h : (op, i) ∈ illegalTable) : i ∈ illegalInstrs :=
  List.mem_map_of_mem (f := Prod.snd) h

/-! ### What every system instruction keeps -/

theorem Instr.System.f (h : i.System s t) : t.f = s.f := by
  cases h with
  | reti => simp [retiOp]
  | _ => rfl

theorem Instr.System.mem (h : i.System s t) : t.mem = s.mem := by
  cases h with
  | reti => simp [retiOp]
  | _ => rfl

theorem Instr.System.mode (h : i.System s t) : t.mode = s.mode := by
  cases h with
  | reti => simp [retiOp]
  | _ => rfl

end

end Sys2Proof

/-! ## The invariant between steps -/

namespace Sys2Proof.Machine
section
variable {i : Instr} {s t : State}

/-- What holds of the state an instruction is executed from, its bytes fetched and the EI latch taken (R900). -/
structure State.Fetched (s : State) : Prop where
  memCanonical : s.mem.wf = true
  flagsMasked : s.f &&& 0x0F = 0
  modePrimary : s.mode = .primary
  running : s.run = .running
  noError : s.err = none
  noPending : s.eiPending = false

/-- The invariant holds at the end of an instruction that is none of the system instructions. -/
theorem State.Fetched.inv_of_effect (hs : s.Fetched) (h : i.Effect s t) : t.endInstr.Inv := by
  have hrun : t.run = .running := (congrArg Control.run h.control).trans hs.running
  have herr : t.err = none := (congrArg Control.err h.control).trans hs.noError
  refine ⟨h.mem hs.memCanonical, ?_, rfl, (congrArg Control.mode h.control).trans hs.modePrimary,
    by simp [hrun, herr], fun _ => hrun⟩
  rcases h.f with hf | ⟨-, hlow⟩
  · rw [State.endInstr_f, hf]
    exact hs.flagsMasked
  · exact hlow

/-- The invariant holds at the end of a system instruction: HALT and STOP leave Running with no EI pending, an illegal
byte enters HaltedError with its record, and the others stay Running. -/
theorem State.Fetched.inv_of_system (hs : s.Fetched) (h : i.System s t) : t.endInstr.Inv where
  memCanonical := by rw [State.endInstr_mem, h.mem]; exact hs.memCanonical
  flagsMasked := by rw [State.endInstr_f, h.f]; exact hs.flagsMasked
  applyClear := rfl
  modePrimary := h.mode.trans hs.modePrimary
  errorRecorded := by
    cases h with
    | illegal op i hi => simp
    | _ => simp [haltOp, stopOp, diOp, eiOp, retiOp, hs.running, hs.noError]
  eiWhileRunning := by
    cases h with
    | di | ei => exact fun _ => hs.running
    | _ => simp [haltOp, stopOp, retiOp, hs.noPending]

theorem State.Inv.noError (hs : s.Inv) (h : s.run ≠ .haltedError) : s.err = none := by
  simpa [hs.errorRecorded] using h

theorem State.Inv.takeInput (hs : s.Inv) : s.takeInput.Inv where
  memCanonical := State.takeInput_keeps_wf hs.memCanonical
  flagsMasked := by simpa using hs.flagsMasked
  applyClear := by simpa using hs.applyClear
  modePrimary := by simpa using hs.modePrimary
  errorRecorded := by simpa using hs.errorRecorded
  eiWhileRunning := by simpa using hs.eiWhileRunning

theorem State.Inv.repeatError (hs : s.Inv) : s.repeatError.Inv :=
  ⟨hs.memCanonical, hs.flagsMasked, hs.applyClear, hs.modePrimary, hs.errorRecorded, hs.eiWhileRunning⟩

theorem State.Inv.takeInterrupt (hs : s.Inv) (h : s.run ≠ .haltedError) : s.takeInterrupt.Inv where
  memCanonical := State.takeInterrupt_keeps_wf hs.memCanonical
  flagsMasked := by simpa using hs.flagsMasked
  applyClear := by simpa using hs.applyClear
  modePrimary := by simpa using hs.modePrimary
  errorRecorded := by simp [hs.noError h]
  eiWhileRunning := by simp

theorem State.Inv.sleepOrWake (hs : s.Inv) (h : s.run ≠ .haltedError) (wakes : Bool) :
    (State.charge 4 { s with run := if wakes then .running else s.run }).Inv where
  memCanonical := hs.memCanonical
  flagsMasked := hs.flagsMasked
  applyClear := hs.applyClear
  modePrimary := hs.modePrimary
  errorRecorded := by cases wakes <;> simp [hs.noError h, h]
  eiWhileRunning hei := by
    cases wakes with
    | true => rfl
    | false => exact hs.eiWhileRunning hei

theorem State.Inv.executeStep (hs : s.Inv) (hrun : s.run = .running) (h : s.executeStep = .next t) : t.Inv := by
  obtain ⟨u, hu, hstep⟩ := State.executeStep_primary hs.modePrimary
  rw [hstep] at h
  cases h
  have hfetched : State.Fetched { s with
      pc := s.pc + BitVec.ofNat 16 (instrLength (s.memRead s.pc)), apply := s.eiPending, eiPending := false } :=
    ⟨hs.memCanonical, hs.flagsMasked, hs.modePrimary, hrun, hs.noError (by rw [hrun]; decide), rfl⟩
  obtain ⟨v, hv, hcase⟩ := exec_cases _ _
  cases exec_unique hu hv
  rcases hcase with heffect | hsystem
  · exact hfetched.inv_of_effect heffect
  · exact hfetched.inv_of_system hsystem

end

/-! ## The machine at power-on -/

theorem State.reset_inv : State.reset.Inv := ⟨rfl, rfl, rfl, rfl, by decide, fun _ => rfl⟩

/-- Beside its parameters and memory a created machine is the reset state (R950, R960). -/
theorem create_inv (params : Params) {image : List Byte} (inputs : List HostInput)
    (h : image.length = Config.memorySize) : State.Inv { create params image with inputs := inputs } where
  memCanonical := create_wf params image h
  flagsMasked := State.reset_inv.flagsMasked
  applyClear := State.reset_inv.applyClear
  modePrimary := State.reset_inv.modePrimary
  errorRecorded := State.reset_inv.errorRecorded
  eiWhileRunning := State.reset_inv.eiWhileRunning

/-- Memory filled from address `k` up reads the byte of the list that stands at the address (R950). -/
theorem Memory.readAt_ofBytes (bytes : List Byte) :
    ∀ k a, k + bytes.length ≤ Config.memorySize → k ≤ a → (Memory.ofBytes k bytes).readAt a = bytes.getD (a - k) 0 := by
  induction bytes with
  | nil => intro k a _ _; rfl
  | cons v rest ih =>
    intro k a hlen hle
    rw [List.length_cons] at hlen
    rw [Memory.ofBytes, Memory.readAt_cons (Memory.ofBytes_wf rest (k + 1) (by omega))]
    split
    · next ha => rw [ha, Nat.sub_self]; rfl
    · rw [ih (k + 1) a (by omega) (by omega), show a - k = a - (k + 1) + 1 by omega, List.getD_cons_succ]

/-! ## Registers and their pairs -/

theorem hiByte_eq_ofNat (w : Word) : hiByte w = BitVec.ofNat 8 (w.toNat / 256) := by
  apply BitVec.eq_of_toNat_eq
  rw [hiByte_toNat, BitVec.toNat_ofNat]
  omega

theorem loByte_eq_ofNat (w : Word) : loByte w = BitVec.ofNat 8 (w.toNat % 256) := by
  apply BitVec.eq_of_toNat_eq
  rw [loByte_toNat, BitVec.toNat_ofNat]
  omega

/-- After a write AF reads the value with bits 3 to 0 masked (R104, R114). -/
theorem State.setStk_af_af (s : State) (v : Word) : (s.setStk .af v).af = v &&& 0xFFF0 :=
  calc (s.setStk .af v).af = wordOf (hiByte v) (loByte v &&& 0xF0#8) := rfl
    _ = wordOf (hiByte v) (loByte v) &&& 0xFFF0#16 := (masked_word ..).symm
    _ = v &&& 0xFFF0#16 := by rw [wordOf_hiByte_loByte]

@[simp] theorem State.setR8_getR8_same (s : State) (r : R8) (v : Byte) : (s.setR8 r v).getR8 r = v := by
  cases r <;> rfl

theorem State.setR8_getR8_other (s : State) {q r : R8} (h : q ≠ r) (v : Byte) :
    (s.setR8 r v).getR8 q = s.getR8 q := by
  cases r <;> cases q <;> trivial

/-- A write of an 8-bit register changes no part of the state but the seven registers (R106). -/
theorem State.setR8_frame (s : State) (r : R8) (v : Byte) :
    { s.setR8 r v with a := s.a, b := s.b, c := s.c, d := s.d, e := s.e, h := s.h, l := s.l } = s := by
  cases r <;> rfl

/-! ## The flags each family forces or keeps (R120) -/

theorem aluOp_nf (op : AluOp) (src : AluSrc) (s : State) :
    (aluOp op src s).nf = decide (op = .sub ∨ op = .sbc ∨ op = .cp) := by
  cases op <;> simp [aluOp, alu, add8, sub8, and8, xor8, or8]

theorem aluOp_and_flags (src : AluSrc) (s : State) :
    (aluOp .and src s).hf = true ∧ (aluOp .and src s).cf = false := by
  simp [aluOp, alu, and8]

theorem aluOp_xor_or_flags {op : AluOp} (hop : op = .xor ∨ op = .or) (src : AluSrc) (s : State) :
    (aluOp op src s).hf = false ∧ (aluOp op src s).cf = false := by
  rcases hop with rfl | rfl <;> simp [aluOp, alu, xor8, or8]

theorem inc8Op_flags (o : Opnd8) (s : State) : (inc8Op o s).nf = false ∧ (inc8Op o s).cf = s.cf := by
  simp [inc8Op]

theorem dec8Op_flags (o : Opnd8) (s : State) : (dec8Op o s).nf = true ∧ (dec8Op o s).cf = s.cf := by
  simp [dec8Op]

theorem addHlOp_flags (r : R16) (s : State) : (addHlOp r s).zf = s.zf ∧ (addHlOp r s).nf = false := by
  simp [addHlOp]

theorem addSpOp_flags (e : Byte) (s : State) : (addSpOp e s).zf = false ∧ (addSpOp e s).nf = false := by
  simp [addSpOp]

theorem ldHlSpOp_flags (e : Byte) (s : State) : (ldHlSpOp e s).zf = false ∧ (ldHlSpOp e s).nf = false := by
  simp [ldHlSpOp]

theorem rotAOp_flags (op : RotOp) (s : State) :
    (rotAOp op s).zf = false ∧ (rotAOp op s).nf = false ∧ (rotAOp op s).hf = false := by
  simp [rotAOp]

theorem rotOp_flags (op : RotOp) (o : Opnd8) (s : State) :
    (rotOp op o s).nf = false ∧ (rotOp op o s).hf = false ∧ (op = .swap → (rotOp op o s).cf = false) := by
  refine ⟨by simp [rotOp], by simp [rotOp], ?_⟩
  rintro rfl
  simp [rotOp, rotate]

theorem bitOp_flags (b : Fin 8) (o : Opnd8) (s : State) :
    (bitOp b o s).nf = false ∧ (bitOp b o s).hf = true ∧ (bitOp b o s).cf = s.cf := by
  simp [bitOp]

theorem daaOp_flags (s : State) : (daaOp s).nf = s.nf ∧ (daaOp s).hf = false := by
  simp [daaOp]

theorem cplOp_flags (s : State) :
    (cplOp s).zf = s.zf ∧ (cplOp s).nf = true ∧ (cplOp s).hf = true ∧ (cplOp s).cf = s.cf := by
  simp [cplOp]

theorem scfOp_flags (s : State) :
    (scfOp s).zf = s.zf ∧ (scfOp s).nf = false ∧ (scfOp s).hf = false ∧ (scfOp s).cf = true := by
  simp [scfOp]

theorem ccfOp_flags (s : State) : (ccfOp s).zf = s.zf ∧ (ccfOp s).nf = false ∧ (ccfOp s).hf = false := by
  simp [ccfOp]

end Sys2Proof.Machine

/-! ## The obligations on the state -/

namespace Sys2Proof.Proofs
open Sys2Proof.Machine

/-- Settles O52: one case for each kind of step; an instruction step by what an instruction can do. -/
theorem everyStepKeepsTheInvariant : Obligations.EveryStepKeepsTheInvariant := by
  intro s u hs h
  have ht := hs.takeInput
  rcases step_cases s _ rfl with ⟨-, hstep⟩ | ⟨hrun, -, hstep⟩ | ⟨hrun, hstep⟩ | ⟨hrun, -, hstep⟩ <;> rw [hstep] at h
  · cases h
    exact ht.repeatError
  · cases h
    exact ht.takeInterrupt (by rcases hrun with hr | hr <;> rw [hr] <;> decide)
  · cases h
    exact ht.sleepOrWake (by rcases hrun with hr | ⟨hr, -⟩ <;> rw [hr] <;> decide) _
  · exact ht.executeStep hrun h

/-- Settles O3: memory filled from address 0 reads the byte at the address, and `create` sets nothing else. -/
theorem createLoadsTheImage : Obligations.CreateLoadsTheImage := by
  intro params image h
  exact ⟨fun x => Memory.readAt_ofBytes image 0 x.toNat (by rw [h]; decide) (Nat.zero_le _), rfl⟩

/-- Settles O58: an effect keeps the control state but for SP and PC, and the system instructions are looked at one by
one. -/
theorem controlStateFrame : Obligations.ControlStateFrame := by
  intro i s
  obtain ⟨t, h, ⟨hc, hsp, hpc, -, -⟩ | hsystem⟩ := exec_cases i s
  · exact ⟨t, h, congrArg Control.params hc, congrArg Control.inputs hc, congrArg Control.mode hc,
      .inl (congrArg Control.run hc), .inl (congrArg Control.err hc), .inl (congrArg Control.ime hc),
      .inl (congrArg Control.eiPending hc), .inl (congrArg Control.apply hc), hsp.imp_right (·.rows),
      hpc.imp_right (·.rows)⟩
  · refine ⟨t, h, ?_⟩
    cases hsystem with
    | illegal op i hi => simp [mem_illegalInstrs hi]
    | _ => simp [haltOp, stopOp, diOp, eiOp, retiOp]

/-- Settles O59: which instructions write F is part of what an instruction can do; the flags a family forces or keeps
are read off its shared operation. -/
theorem flagTable : Obligations.FlagTable := by
  intro i s
  obtain ⟨t, h, hcase⟩ := exec_cases i s
  have hf : t.f = s.f ∨ i.WritesF := by
    rcases hcase with heffect | hsystem
    · exact heffect.f.imp_right And.left
    · exact .inl hsystem.f
  refine ⟨t, h, hf.imp_right (·.rows), ?_, ?_, ?_, ?_, ?_, ?_, ?_, ?_, ?_, ?_, ?_, ?_, ?_, ?_⟩
  · rintro op src rfl
    rw [exec_unique h (exec_alu op src s)]
    exact aluOp_nf op src s
  · rintro src rfl
    rw [exec_unique h (exec_alu .and src s)]
    exact aluOp_and_flags src s
  · rintro op src rfl hop
    rw [exec_unique h (exec_alu op src s)]
    exact aluOp_xor_or_flags hop src s
  · rintro o rfl
    rw [exec_unique h (exec_inc8 o s)]
    exact inc8Op_flags o s
  · rintro o rfl
    rw [exec_unique h (exec_dec8 o s)]
    exact dec8Op_flags o s
  · rintro r rfl
    rw [exec_unique h (exec_addHL r s)]
    exact addHlOp_flags r s
  · rintro e (rfl | rfl) <;> cases h
    · exact addSpOp_flags e s
    · exact ldHlSpOp_flags e s
  · rintro (rfl | rfl | rfl | rfl) <;> cases h
    · exact rotAOp_flags .rlc s
    · exact rotAOp_flags .rrc s
    · exact rotAOp_flags .rl s
    · exact rotAOp_flags .rr s
  · rintro op o rfl
    rw [exec_unique h (exec_rot op o s)]
    exact rotOp_flags op o s
  · rintro b o rfl
    rw [exec_unique h (exec_bit b o s)]
    exact bitOp_flags b o s
  · rintro rfl
    cases h
    exact daaOp_flags s
  · rintro rfl
    cases h
    exact cplOp_flags s
  · rintro rfl
    cases h
    exact scfOp_flags s
  · rintro rfl
    cases h
    exact ccfOp_flags s

/-- Settles O1: the reset state is a literal, so each value is read off it. -/
theorem resetIsThePowerOnState : Obligations.ResetIsThePowerOnState := by
  unfold Obligations.ResetIsThePowerOnState
  decide

/-- Settles O2: the invariant of the reset state, and of a machine created from it. -/
theorem resetHasTheInvariant : Obligations.ResetHasTheInvariant :=
  ⟨State.reset_inv, fun params _ inputs h => create_inv params inputs h⟩

/-- Settles O4: a pair read is a word of two bytes, and a pair write splits the word into its bytes. -/
theorem pairsAreViewsOfTheirHalves : Obligations.PairsAreViewsOfTheirHalves := by
  intro s v
  simp only [← hiByte_eq_ofNat, ← loByte_eq_ofNat]
  exact ⟨⟨wordOf_toNat .., wordOf_toNat .., wordOf_toNat .., wordOf_toNat ..⟩, ⟨rfl, rfl, rfl, rfl⟩, ⟨rfl, rfl, rfl⟩,
    wordOf_hiByte_loByte v, wordOf_hiByte_loByte v, wordOf_hiByte_loByte v, s.setStk_af_af v⟩

/-- Settles O5: the reads after a register write, and each write as the whole next state. -/
theorem registerWriteChangesOnlyItself : Obligations.RegisterWriteChangesOnlyItself := by
  intro s r v w
  exact ⟨s.setR8_getR8_same r v, fun _ h => s.setR8_getR8_other h v, s.setR8_frame r v,
    ⟨rfl, rfl, rfl, rfl, rfl, rfl, rfl⟩, ⟨rfl, rfl, rfl⟩, rfl, rfl, rfl, rfl, rfl⟩

end Sys2Proof.Proofs

/-! PROOFS. Memory (spec/20_memory.md): the canonical form determines the data, and which instructions store, each at its
own addresses. -/

namespace Sys2Proof.Machine

/-! ## Canonical memories are determined by their reads -/

@[simp] theorem Memory.readAt_head (k : Nat) (v : Byte) (m : Memory) : Memory.readAt ((k, v) :: m) k = v := by
  simp [Memory.readAt]

theorem Memory.readAt_tail {k a : Nat} (h : k < a) (v : Byte) (m : Memory) :
    Memory.readAt ((k, v) :: m) a = m.readAt a := by
  rw [Memory.readAt, if_neg (by omega), if_neg (by omega)]

/-- A canonical memory is told apart, at its first address, from one that lists nothing up to there. -/
theorem Memory.readAt_head_ne {lo k : Nat} {v : Byte} {m m' : Memory} (h : Memory.wfFrom lo ((k, v) :: m) = true)
    (h' : Memory.wfFrom (k + 1) m' = true) : Memory.readAt ((k, v) :: m) k ≠ m'.readAt k := by
  obtain ⟨-, -, hv, -⟩ := Memory.wfFrom_cons.1 h
  rw [Memory.readAt_head, Memory.readAt_below h' (Nat.lt_succ_self k)]
  exact hv

/-- Canonical memories that read the same throughout the address space are equal: their first entries stand at one
address and hold one byte, and their rests read the same again. -/
theorem Memory.eq_of_readAt_eq (m : Memory) : ∀ (m' : Memory) (lo : Nat), Memory.wfFrom lo m = true →
    Memory.wfFrom lo m' = true → (∀ a < Config.memorySize, m.readAt a = m'.readAt a) → m = m' := by
  induction m with
  | nil =>
    rintro (_ | ⟨⟨k, v⟩, m'⟩) lo - h' hread
    · rfl
    · obtain ⟨-, hk, -, -⟩ := Memory.wfFrom_cons.1 h'
      exact absurd (hread k hk).symm (Memory.readAt_head_ne h' rfl)
  | cons p m ih =>
    obtain ⟨k, v⟩ := p
    intro m' lo h h' hread
    obtain ⟨hlo, hk, hv, hm⟩ := Memory.wfFrom_cons.1 h
    rcases m' with _ | ⟨⟨k', v'⟩, m'⟩
    · exact absurd (hread k hk) (Memory.readAt_head_ne h rfl)
    · obtain ⟨hlo', hk', hv', hm'⟩ := Memory.wfFrom_cons.1 h'
      rcases lt_trichotomy k k' with hlt | rfl | hgt
      · exact absurd (hread k hk) (Memory.readAt_head_ne h (Memory.wfFrom_cons.2 ⟨hlt, hk', hv', hm'⟩))
      · have hhead : v = v' := by simpa using hread k hk
        have htail : m = m' := ih m' (k + 1) hm hm' fun a ha => by
          rcases Nat.lt_or_ge k a with hka | hak
          · simpa only [Memory.readAt_tail hka] using hread a ha
          · rw [Memory.readAt_below hm (by omega), Memory.readAt_below hm' (by omega)]
        rw [hhead, htail]
      · exact absurd (hread k' hk').symm (Memory.readAt_head_ne h' (Memory.wfFrom_cons.2 ⟨hgt, hk, hv, hm⟩))

/-! ## What a read sees after an operation that stores -/

/-- A read looks at memory alone (R209). -/
theorem State.memRead_congr {t u : State} (h : t.mem = u.mem) (x : Word) : t.memRead x = u.memRead x :=
  congrArg (Memory.readAt · x.toNat) h

/-- A read after a push: the low byte at SP - 2, the high byte at SP - 1, the old byte elsewhere (R700). -/
theorem State.memRead_push16 {s : State} (hwf : s.mem.wf = true) (v x : Word) :
    (s.push16 v).memRead x =
      if x = s.sp - 2 then loByte v else if x = s.sp - 1 then hiByte v else s.memRead x := by
  have hhigh : ((s.setSp (s.sp - 1)).memWrite (s.sp - 1) (hiByte v)).mem.wf = true :=
    State.memWrite_keeps_wf (s := s.setSp (s.sp - 1)) _ _ hwf
  have hsp : s.sp - 1 - 1 = s.sp - 2 := by bv_omega
  calc (s.push16 v).memRead x
    _ = (((s.setSp (s.sp - 1)).memWrite (s.sp - 1) (hiByte v)).memWrite (s.sp - 1 - 1) (loByte v)).memRead x := rfl
    _ = _ := by
      rw [State.memRead_memWrite hhigh, State.memRead_memWrite (s := s.setSp (s.sp - 1)) hwf, hsp, State.setSp_memRead]

/-! ### Memory after the shared operations of the extended table -/

theorem rotOp_mem (op : RotOp) (o : Opnd8) (s : State) :
    (rotOp op o s).mem = (s.putOpnd o (rotate op (s.getOpnd o) s.cf).1).mem := by
  simp [rotOp]

theorem bitOp_mem (b : Fin 8) (o : Opnd8) (s : State) : (bitOp b o s).mem = s.mem := by
  simp [bitOp]

theorem resOp_mem (b : Fin 8) (o : Opnd8) (s : State) :
    (resOp b o s).mem = (s.putOpnd o (s.getOpnd o &&& ~~~(bitMask b))).mem :=
  State.chargeExtended_mem ..

theorem setOp_mem (b : Fin 8) (o : Opnd8) (s : State) :
    (setOp b o s).mem = (s.putOpnd o (s.getOpnd o ||| bitMask b)).mem :=
  State.chargeExtended_mem ..

/-- The high page's addresses: 0xFF00 plus the byte (R318, R613). -/
theorem highPage_eq_ofNat (n : Byte) : highPage n = BitVec.ofNat 16 (0xFF00 + n.toNat) := by
  unfold highPage
  bv_omega

end Sys2Proof.Machine

/-! ## Which instruction stores where -/

namespace Sys2Proof
open Machine

/-- Code 6 alone names the byte at HL (R310). -/
theorem Opnd8.ofCode_eq_mHL {z : Fin 8} (h : Opnd8.ofCode z = .mHL) : z = 6 := by
  revert z; decide

/-- The addresses an instruction stores to from a state (R202, R613, R700). -/
inductive Instr.StoresAt (s : State) : Instr → Word → Prop where
  | ld (r : R8) : Instr.StoresAt s (Instr.ld .mHL (.reg r)) s.hl
  | ldN8 (n : Byte) : Instr.StoresAt s (Instr.ldN8 .mHL n) s.hl
  | inc8 : Instr.StoresAt s (Instr.inc8 .mHL) s.hl
  | dec8 : Instr.StoresAt s (Instr.dec8 .mHL) s.hl
  | rot (op : RotOp) : Instr.StoresAt s (Instr.rot op .mHL) s.hl
  | res (b : Fin 8) : Instr.StoresAt s (Instr.res b .mHL) s.hl
  | set (b : Fin 8) : Instr.StoresAt s (Instr.set b .mHL) s.hl
  | prefixCB (op2 : Byte) (hZ : opZ op2 = 6) (hX : opX op2 ≠ 1) : Instr.StoresAt s (.prefixCB op2) s.hl
  | ldMemA (m : R16Mem) : Instr.StoresAt s (Instr.ldMemA m) (s.memAddr m)
  | ldh (n : Byte) : Instr.StoresAt s (.ldh_ma8_A n) (highPage n)
  | ldC : Instr.StoresAt s .ld_mC_A (highPage s.c)
  | ldA16 (a : Word) : Instr.StoresAt s (.ld_ma16_A a) a
  | ldA16Sp (a x : Word) (h : x = a ∨ x = a + 1) : Instr.StoresAt s (.ld_ma16_SP a) x
  | push (r : R16Stk) (x : Word) (h : x = s.sp - 1 ∨ x = s.sp - 2) : Instr.StoresAt s (Instr.push r) x
  | call (a x : Word) (h : x = s.sp - 1 ∨ x = s.sp - 2) : Instr.StoresAt s (.call_a16 a) x
  | callCc (cc : Cond) (a x : Word) (hcc : s.cond cc = true) (h : x = s.sp - 1 ∨ x = s.sp - 2) :
      Instr.StoresAt s (Instr.callCc cc a) x
  | rst (y : Fin 8) (x : Word) (h : x = s.sp - 1 ∨ x = s.sp - 2) : Instr.StoresAt s (Instr.rst y) x

/-- The storing instructions as the obligation lists them. -/
theorem Instr.StoresAt.rows {i : Instr} {s : State} {x : Word} (h : i.StoresAt s x) :
    (x = s.hl ∧ ((∃ r, i = Instr.ld .mHL (.reg r)) ∨ (∃ n, i = Instr.ldN8 .mHL n) ∨ i = Instr.inc8 .mHL ∨
      i = Instr.dec8 .mHL ∨ (∃ op, i = Instr.rot op .mHL) ∨ (∃ b, i = Instr.res b .mHL ∨ i = Instr.set b .mHL) ∨
      i = .ld_mHLi_A ∨ i = .ld_mHLd_A ∨ ∃ op2, i = .prefixCB op2 ∧ opZ op2 = 6 ∧ opX op2 ≠ 1)) ∨
    (x = s.bc ∧ i = .ld_mBC_A) ∨ (x = s.de ∧ i = .ld_mDE_A) ∨
    (∃ n : Byte, x = BitVec.ofNat 16 (0xFF00 + n.toNat) ∧ (i = .ldh_ma8_A n ∨ (n = s.c ∧ i = .ld_mC_A))) ∨
    (∃ a : Word, (x = a ∧ i = .ld_ma16_A a) ∨ ((x = a ∨ x = a + 1) ∧ i = .ld_ma16_SP a)) ∨
    ((x = s.sp - 1 ∨ x = s.sp - 2) ∧ ((∃ r, i = Instr.push r) ∨ (∃ a, i = .call_a16 a) ∨
      (∃ cc a, i = Instr.callCc cc a ∧ s.cond cc = true) ∨ ∃ y, i = Instr.rst y)) := by
  cases h with
  | ld r => exact .inl ⟨rfl, .inl ⟨r, rfl⟩⟩
  | ldN8 | inc8 | dec8 => exact .inl ⟨rfl, by simp⟩
  | rot op => exact .inl ⟨rfl, .inr (.inr (.inr (.inr (.inl ⟨op, rfl⟩))))⟩
  | res b => exact .inl ⟨rfl, .inr (.inr (.inr (.inr (.inr (.inl ⟨b, .inl rfl⟩)))))⟩
  | set b => exact .inl ⟨rfl, .inr (.inr (.inr (.inr (.inr (.inl ⟨b, .inr rfl⟩)))))⟩
  | prefixCB op2 hZ hX => exact .inl ⟨rfl, by simp [hZ, hX]⟩
  | ldMemA m =>
    cases m with
    | bc => exact .inr (.inl ⟨rfl, rfl⟩)
    | de => exact .inr (.inr (.inl ⟨rfl, rfl⟩))
    | hlInc | hlDec => exact .inl ⟨rfl, by simp [Instr.ldMemA]⟩
  | ldh n => exact .inr (.inr (.inr (.inl ⟨n, highPage_eq_ofNat n, .inl rfl⟩)))
  | ldC => exact .inr (.inr (.inr (.inl ⟨s.c, highPage_eq_ofNat s.c, .inr ⟨rfl, rfl⟩⟩)))
  | ldA16 a => exact .inr (.inr (.inr (.inr (.inl ⟨x, .inl ⟨rfl, rfl⟩⟩))))
  | ldA16Sp a x h => exact .inr (.inr (.inr (.inr (.inl ⟨a, .inr ⟨h, rfl⟩⟩))))
  | push r x h => exact .inr (.inr (.inr (.inr (.inr ⟨h, .inl ⟨r, rfl⟩⟩))))
  | call a x h => exact .inr (.inr (.inr (.inr (.inr ⟨h, .inr (.inl ⟨a, rfl⟩)⟩))))
  | callCc cc a x hcc h => exact .inr (.inr (.inr (.inr (.inr ⟨h, .inr (.inr (.inl ⟨cc, a, rfl, hcc⟩))⟩))))
  | rst y x h => exact .inr (.inr (.inr (.inr (.inr ⟨h, .inr (.inr (.inr ⟨y, rfl⟩))⟩))))

/-- Memory of `t` reads as memory of `s` but at the addresses the instruction stores to from `s`. -/
def Instr.StoresOnly (i : Instr) (s t : State) : Prop := ∀ x, t.memRead x = s.memRead x ∨ i.StoresAt s x

section
variable {i : Instr} {s t : State}

theorem Instr.StoresOnly.of_mem_eq (ht : t.mem = s.mem) : i.StoresOnly s t :=
  fun x => .inl (State.memRead_congr ht x)

/-- A conditional operation stores only at the instruction's addresses when both of its outcomes do. -/
theorem Instr.StoresOnly.ite {c : Prop} [Decidable c] {t u : State} (ht : c → i.StoresOnly s t)
    (hu : i.StoresOnly s u) : i.StoresOnly s (if c then t else u) := by
  split
  · exact ht ‹_›
  · exact hu

section
variable (hwf : s.mem.wf = true)
include hwf

theorem Instr.StoresOnly.memWrite {a : Word} {v : Byte} (h : i.StoresAt s a) (ht : t.mem = (s.memWrite a v).mem) :
    i.StoresOnly s t := by
  intro x
  rw [State.memRead_congr ht, State.memRead_memWrite hwf]
  split
  · next hx => exact .inr (hx ▸ h)
  · exact .inl rfl

theorem Instr.StoresOnly.memWrite16 {a v : Word} (h : ∀ x, x = a ∨ x = a + 1 → i.StoresAt s x)
    (ht : t.mem = (s.memWrite16 a v).mem) : i.StoresOnly s t := by
  intro x
  rw [State.memRead_congr ht, State.memRead_memWrite16 hwf]
  split
  · next hlow => exact .inr (h x (.inl hlow))
  · split
    · next hhigh => exact .inr (h x (.inr hhigh))
    · exact .inl rfl

theorem Instr.StoresOnly.push16 {v : Word} (h : ∀ x, x = s.sp - 1 ∨ x = s.sp - 2 → i.StoresAt s x)
    (ht : t.mem = (s.push16 v).mem) : i.StoresOnly s t := by
  intro x
  rw [State.memRead_congr ht, State.memRead_push16 hwf]
  split
  · next hlow => exact .inr (h x (.inr hlow))
  · split
    · next hhigh => exact .inr (h x (.inl hhigh))
    · exact .inl rfl

theorem Instr.StoresOnly.callTo {a : Word} (h : ∀ x, x = s.sp - 1 ∨ x = s.sp - 2 → i.StoresAt s x)
    (ht : t.mem = (s.callTo a).mem) : i.StoresOnly s t :=
  .push16 hwf h (ht.trans (State.setPc_mem ..))

/-- An operand write stores at HL when the operand is the byte there, and nowhere when it is a register (R310). -/
theorem Instr.StoresOnly.putOpnd {o : Opnd8} {v : Byte} (h : o = .mHL → i.StoresAt s s.hl)
    (ht : t.mem = (s.putOpnd o v).mem) : i.StoresOnly s t := by
  cases o with
  | reg r => exact .of_mem_eq (ht.trans (State.setR8_mem s r v))
  | mHL => exact .memWrite hwf (h rfl) ht

/-- The row PREFIX_CB stores at HL when its byte selects a (HL) entry other than those of BIT (R309, R522). -/
theorem prefixOp_storesOnly (op2 : Byte) : (Instr.prefixCB op2).StoresOnly s (prefixOp op2 s) := by
  have stores (hX : opX op2 ≠ 1) (ho : Opnd8.ofCode (opZ op2) = .mHL) : (Instr.prefixCB op2).StoresAt s s.hl :=
    .prefixCB op2 (Opnd8.ofCode_eq_mHL ho) hX
  unfold prefixOp
  split
  · next hX => exact .putOpnd hwf (stores (by omega)) (rotOp_mem ..)
  · exact .of_mem_eq (bitOp_mem ..)
  · next hX => exact .putOpnd hwf (stores (by omega)) (resOp_mem ..)
  · next _ hX _ => exact .putOpnd hwf (stores hX) (setOp_mem ..)

/-- Every instruction stores only at its own addresses. -/
theorem exec_storesOnly (i : Instr) : ∃ t, exec i s = .next t ∧ i.StoresOnly s t := by
  cases i.form with
  | ld y z h =>
    refine ⟨_, exec_ld _ _ h _, .putOpnd hwf (fun hy => ?_) rfl⟩
    subst hy
    cases z with
    | reg r => exact .ld r
    | mHL => exact absurd ⟨rfl, rfl⟩ h
  | ldN8 y n => exact ⟨_, exec_ldN8 .., .putOpnd hwf (by rintro rfl; exact .ldN8 n) rfl⟩
  | inc8 o => exact ⟨_, exec_inc8 .., .putOpnd hwf (by rintro rfl; exact .inc8) rfl⟩
  | dec8 o => exact ⟨_, exec_dec8 .., .putOpnd hwf (by rintro rfl; exact .dec8) rfl⟩
  | rot op o => exact ⟨_, exec_rot .., .putOpnd hwf (by rintro rfl; exact .rot op) (rotOp_mem ..)⟩
  | res b o => exact ⟨_, exec_res .., .putOpnd hwf (by rintro rfl; exact .res b) (resOp_mem ..)⟩
  | set b o => exact ⟨_, exec_set .., .putOpnd hwf (by rintro rfl; exact .set b) (setOp_mem ..)⟩
  | prefixCB op2 => exact ⟨_, rfl, prefixOp_storesOnly hwf op2⟩
  | ldMemA m => exact ⟨_, exec_ldMemA .., .memWrite hwf (.ldMemA m) (State.memAddrAfter_mem ..)⟩
  | ldh_ma8_A n => exact ⟨_, rfl, .memWrite hwf (.ldh n) rfl⟩
  | ld_mC_A => exact ⟨_, rfl, .memWrite hwf .ldC rfl⟩
  | ld_ma16_A a => exact ⟨_, rfl, .memWrite hwf (.ldA16 a) rfl⟩
  | ld_ma16_SP a => exact ⟨_, rfl, .memWrite16 hwf (.ldA16Sp a) rfl⟩
  | push r => exact ⟨_, exec_push .., .push16 hwf (.push r) (State.charge_mem ..)⟩
  | call_a16 a => exact ⟨_, rfl, .callTo hwf (.call a) (State.charge_mem ..)⟩
  | rst y => exact ⟨_, exec_rst .., .callTo hwf (.rst y) (State.charge_mem ..)⟩
  | callCc cc a =>
    exact ⟨_, exec_callCc .., .ite (fun hcc => .callTo hwf (.callCc cc a · hcc) (State.charge_mem ..))
      (.of_mem_eq rfl)⟩
  | alu op src => exact ⟨_, exec_alu .., .of_mem_eq (by cases op <;> simp [aluOp])⟩
  | bit b o => exact ⟨_, exec_bit .., .of_mem_eq (bitOp_mem ..)⟩
  | inc16 r => exact ⟨_, exec_inc16 .., .of_mem_eq (State.setR16_mem ..)⟩
  | dec16 r => exact ⟨_, exec_dec16 .., .of_mem_eq (State.setR16_mem ..)⟩
  | ldN16 r n => exact ⟨_, exec_ldN16 .., .of_mem_eq (State.setR16_mem ..)⟩
  | ldAMem m => exact ⟨_, exec_ldAMem .., .of_mem_eq (State.memAddrAfter_mem ..)⟩
  | addHL r => exact ⟨_, exec_addHL .., .of_mem_eq (by simp [addHlOp])⟩
  | jrCc cc e => exact ⟨_, exec_jrCc .., .ite (fun _ => .of_mem_eq rfl) (.of_mem_eq rfl)⟩
  | jpCc cc a => exact ⟨_, exec_jpCc .., .ite (fun _ => .of_mem_eq rfl) (.of_mem_eq rfl)⟩
  | retCc cc => exact ⟨_, exec_retCc .., .ite (fun _ => .of_mem_eq (by simp)) (.of_mem_eq rfl)⟩
  | pop r => exact ⟨_, exec_pop .., .of_mem_eq (State.setStk_mem ..)⟩
  | ret => exact ⟨_, rfl, .of_mem_eq (by simp [retOp])⟩
  | reti => exact ⟨_, rfl, .of_mem_eq (by simp [retiOp])⟩
  | illegal op i h => exact ⟨_, exec_illegal h s, .of_mem_eq rfl⟩
  | add_SP_e8 e => exact ⟨_, rfl, .of_mem_eq (by simp [addSpOp])⟩
  | ld_HL_SPe8 e => exact ⟨_, rfl, .of_mem_eq (by simp [ldHlSpOp])⟩
  | rlca | rrca | rla | rra => exact ⟨_, rfl, .of_mem_eq (by simp [rotAOp])⟩
  | daa => exact ⟨_, rfl, .of_mem_eq (by simp [daaOp])⟩
  | cpl | scf | ccf | ldh_A_ma8 | ld_A_mC | ld_A_ma16 | ld_SP_HL | jr_e8 | jp_a16 | jp_HL | nop | halt | stop | di
  | ei => exact ⟨_, rfl, .of_mem_eq rfl⟩

/-- Every instruction keeps memory canonical. -/
theorem exec_keeps_wf (h : exec i s = .next t) : t.mem.wf = true := by
  obtain ⟨u, hu, hcase⟩ := exec_cases i s
  cases exec_unique h hu
  rcases hcase with heffect | hsystem
  · exact heffect.mem hwf
  · rw [hsystem.mem]
    exact hwf

end
end

end Sys2Proof

/-! ## The obligations on memory -/

namespace Sys2Proof.Proofs
open Sys2Proof.Machine

/-- Settles O7: the rule for a read after a byte write, at the written address and at another; the write keeps the
canonical form and touches memory alone. -/
theorem memoryReadsTheLastWrite : Obligations.MemoryReadsTheLastWrite := by
  intro s a v hwf
  refine ⟨?_, fun x hx => ?_, rfl, State.memWrite_keeps_wf a v hwf⟩
  · rw [State.memRead_memWrite hwf, if_pos rfl]
  · rw [State.memRead_memWrite hwf, if_neg hx]

/-- Settles O9: every address of the address space is a word, so the two memories read the same throughout it. -/
theorem canonicalMemoriesThatReadTheSameAreEqual : Obligations.CanonicalMemoriesThatReadTheSameAreEqual := by
  intro m m' h h' hread
  exact Memory.eq_of_readAt_eq m m' 0 h h' fun a ha => hread (BitVec.ofNatLT a ha)

/-- Settles O60: every instruction keeps memory canonical and stores only at its own addresses, which are the rows the
statement lists. -/
theorem memoryFrame : Obligations.MemoryFrame := by
  intro i s hwf
  obtain ⟨t, h, hstores⟩ := exec_storesOnly hwf i
  exact ⟨t, h, exec_keeps_wf hwf h, fun x => (hstores x).imp_right (·.rows)⟩

end Sys2Proof.Proofs

/-! PROOFS. The encoding (spec/30_encoding.md). Both opcode tables are read by fields, the encoder row by row. An entry of a
table encodes to the bytes it was read from (`encode_decodeBytes`), every well-formed instruction is an entry
(`Instr.decoded`), and a byte past an instruction's length has no part in it (`decodeBytes_take`): the two round trips
follow. -/

namespace Sys2Proof

/-! ## An opcode byte from its fields -/

/-- The opcode byte with the fields x, y and z (R305). -/
def opOf (x : Fin 4) (y z : Fin 8) : Byte := BitVec.ofNat 8 (64 * x.val + 8 * y.val + z.val)

theorem opOf_toNat (x : Fin 4) (y z : Fin 8) : (opOf x y z).toNat = 64 * x.val + 8 * y.val + z.val := by
  rw [opOf, BitVec.toNat_ofNat]
  omega

@[simp] theorem opX_opOf (x : Fin 4) (y z : Fin 8) : opX (opOf x y z) = x := by
  rw [opX, opOf_toNat]
  omega

@[simp] theorem opY_opOf (x : Fin 4) (y z : Fin 8) : opY (opOf x y z) = y := by
  apply Fin.ext
  simp only [opY, opOf_toNat]
  omega

@[simp] theorem opZ_opOf (x : Fin 4) (y z : Fin 8) : opZ (opOf x y z) = z := by
  apply Fin.ext
  simp only [opZ, opOf_toNat]
  omega

/-- Every byte is put together from its fields (R305). -/
theorem exists_opOf (op : Byte) : ∃ x y z, op = opOf x y z := by
  have hx : opX op < 4 := Nat.div_lt_of_lt_mul op.isLt
  refine ⟨⟨opX op, hx⟩, opY op, opZ op, BitVec.eq_of_toNat_eq ?_⟩
  rw [opOf_toNat]
  simp only [opX, opY, opZ]
  omega

theorem opOf_eq_prefixByte {x : Fin 4} {y z : Fin 8} (h : opOf x y z = prefixByte) : x = 3 ∧ y = 1 ∧ z = 3 := by
  revert x y z; decide

/-! ## The opcode tables by fields (R306, R309) -/

section
variable (y z : Fin 8) (b1 b2 : Byte)

@[simp] theorem decodePrimary_opOf_zero : decodePrimary (opOf 0 y z) b1 b2 = decodeX0 y z b1 b2 := by
  simp [decodePrimary]

@[simp] theorem decodePrimary_opOf_one :
    decodePrimary (opOf 1 y z) b1 b2 = Instr.ld (.ofCode y) (.ofCode z) := by
  simp [decodePrimary]

@[simp] theorem decodePrimary_opOf_two :
    decodePrimary (opOf 2 y z) b1 b2 = Instr.alu (.ofCode y) (.opnd (.ofCode z)) := by
  simp [decodePrimary]

@[simp] theorem decodePrimary_opOf_three : decodePrimary (opOf 3 y z) b1 b2 = decodeX3 y z b1 b2 := by
  simp [decodePrimary]

@[simp] theorem decodeExtended_opOf_zero : decodeExtended (opOf 0 y z) = Instr.rot (.ofCode y) (.ofCode z) := by
  simp [decodeExtended]

@[simp] theorem decodeExtended_opOf_one : decodeExtended (opOf 1 y z) = Instr.bit y (.ofCode z) := by
  simp [decodeExtended]

@[simp] theorem decodeExtended_opOf_two : decodeExtended (opOf 2 y z) = Instr.res y (.ofCode z) := by
  simp [decodeExtended]

@[simp] theorem decodeExtended_opOf_three : decodeExtended (opOf 3 y z) = Instr.set y (.ofCode z) := by
  simp [decodeExtended]

@[simp] theorem instrLength_opOf_one : instrLength (opOf 1 y z) = 1 := by revert y z; decide

@[simp] theorem instrLength_opOf_two : instrLength (opOf 2 y z) = 1 := by revert y z; decide

end

/-! ## An entry encodes to the bytes it was read from -/

section
variable (y z : Fin 8) (b1 b2 : Byte)

theorem encode_ld : (Instr.ld (.ofCode y) (.ofCode z)).encode = [opOf 1 y z] := by revert y z; decide

theorem encode_alu_opnd : (Instr.alu (.ofCode y) (.opnd (.ofCode z))).encode = [opOf 2 y z] := by
  revert y z; decide

theorem encode_rot : (Instr.rot (.ofCode y) (.ofCode z)).encode = [prefixByte, opOf 0 y z] := by
  revert y z; decide

theorem encode_bit : (Instr.bit y (.ofCode z)).encode = [prefixByte, opOf 1 y z] := by revert y z; decide

theorem encode_res : (Instr.res y (.ofCode z)).encode = [prefixByte, opOf 2 y z] := by revert y z; decide

theorem encode_set : (Instr.set y (.ofCode z)).encode = [prefixByte, opOf 3 y z] := by revert y z; decide

/-- Two operand bytes are the halves of a word, low byte first (R321). -/
theorem exists_word : ∃ w, b1 = loByte w ∧ b2 = hiByte w :=
  ⟨wordOf b2 b1, (loByte_wordOf ..).symm, (hiByte_wordOf ..).symm⟩

theorem encode_decodeX0 :
    (decodeX0 y z b1 b2).encode = [opOf 0 y z, b1, b2].take (instrLength (opOf 0 y z)) := by
  obtain ⟨w, rfl, rfl⟩ := exists_word b1 b2
  simp only [decodeX0, wordOf_hiByte_loByte]
  fin_cases z <;> fin_cases y <;> rfl

theorem encode_decodeX3 :
    (decodeX3 y z b1 b2).encode = [opOf 3 y z, b1, b2].take (instrLength (opOf 3 y z)) := by
  obtain ⟨w, rfl, rfl⟩ := exists_word b1 b2
  simp only [decodeX3, wordOf_hiByte_loByte]
  fin_cases z <;> fin_cases y <;> rfl

end

theorem encode_decodePrimary (op b1 b2 : Byte) :
    (decodePrimary op b1 b2).encode = [op, b1, b2].take (instrLength op) := by
  obtain ⟨x, y, z, rfl⟩ := exists_opOf op
  match x with
  | 0 => rw [decodePrimary_opOf_zero, encode_decodeX0]
  | 1 => rw [decodePrimary_opOf_one, encode_ld, instrLength_opOf_one]; rfl
  | 2 => rw [decodePrimary_opOf_two, encode_alu_opnd, instrLength_opOf_two]; rfl
  | 3 => rw [decodePrimary_opOf_three, encode_decodeX3]

theorem encode_decodeExtended (op2 : Byte) : (decodeExtended op2).encode = [prefixByte, op2] := by
  obtain ⟨x, y, z, rfl⟩ := exists_opOf op2
  match x with
  | 0 => rw [decodeExtended_opOf_zero, encode_rot]
  | 1 => rw [decodeExtended_opOf_one, encode_bit]
  | 2 => rw [decodeExtended_opOf_two, encode_res]
  | 3 => rw [decodeExtended_opOf_three, encode_set]

/-- The instruction at three bytes encodes to as many of them as the first says (R302). -/
theorem encode_decodeBytes (op b1 b2 : Byte) :
    (decodeBytes op b1 b2).encode = [op, b1, b2].take (instrLength op) := by
  unfold decodeBytes
  split
  · next h => rw [h]; exact encode_decodeExtended b1
  · exact encode_decodePrimary op b1 b2

theorem length_encode_decodeBytes (op b1 b2 : Byte) : (decodeBytes op b1 b2).encode.length = instrLength op := by
  rw [encode_decodeBytes]
  rcases instrLength_cases op with hl | hl | hl <;> rw [hl] <;> rfl

/-! ## What the decoder answers is well-formed -/

theorem exists_prefixCB_of_not_wellFormed {i : Instr} (h : ¬i.wellFormed = true) : ∃ op2, i = .prefixCB op2 := by
  cases i with
  | prefixCB op2 => exact ⟨op2, rfl⟩
  | _ => exact absurd rfl h

theorem decodeExtended_wellFormed (op2 : Byte) : (decodeExtended op2).wellFormed = true := by
  revert op2; decide

/-- The decoder never answers the row PREFIX_CB: after the byte 0xCB it answers from the extended table (R303, R751), and
no other byte is the first of that row. -/
theorem decodeBytes_wellFormed (op b1 b2 : Byte) : (decodeBytes op b1 b2).wellFormed = true := by
  by_cases hop : op = prefixByte
  · rw [decodeBytes, if_pos hop]
    exact decodeExtended_wellFormed b1
  · by_contra h
    obtain ⟨op2, hi⟩ := exists_prefixCB_of_not_wellFormed h
    have hencode := encode_decodeBytes op b1 b2
    rw [hi] at hencode
    rcases instrLength_cases op with hl | hl | hl <;> rw [hl] at hencode <;> cases hencode
    exact hop rfl

/-! ## The operand bytes past an instruction's length have no part in it (R302) -/

theorem decodeX0_take (y z : Fin 8) (b1 b2 : Byte) :
    let bytes := [opOf 0 y z, b1, b2].take (instrLength (opOf 0 y z))
    decodeX0 y z b1 b2 = decodeX0 y z (bytes.getD 1 0) (bytes.getD 2 0) := by
  fin_cases z <;> fin_cases y <;> rfl

theorem decodeX3_take (y z : Fin 8) (b1 b2 : Byte) :
    let bytes := [opOf 3 y z, b1, b2].take (instrLength (opOf 3 y z))
    decodeX3 y z b1 b2 = decodeX3 y z (bytes.getD 1 0) (bytes.getD 2 0) := by
  fin_cases z <;> fin_cases y <;> rfl

theorem decodePrimary_take (op b1 b2 : Byte) :
    let bytes := [op, b1, b2].take (instrLength op)
    decodePrimary op b1 b2 = decodePrimary op (bytes.getD 1 0) (bytes.getD 2 0) := by
  obtain ⟨x, y, z, rfl⟩ := exists_opOf op
  match x with
  | 0 => simp only [decodePrimary_opOf_zero]; exact decodeX0_take y z b1 b2
  | 1 => simp only [decodePrimary_opOf_one]
  | 2 => simp only [decodePrimary_opOf_two]
  | 3 => simp only [decodePrimary_opOf_three]; exact decodeX3_take y z b1 b2

theorem decodeBytes_take (op b1 b2 : Byte) :
    let bytes := [op, b1, b2].take (instrLength op)
    decodeBytes op b1 b2 = decodeBytes op (bytes.getD 1 0) (bytes.getD 2 0) := by
  simp only [decodeBytes]
  split
  · next h => rw [h]; rfl
  · exact decodePrimary_take op b1 b2

theorem decodeBytes_of_length_one {op : Byte} (h : instrLength op = 1) (b1 b2 : Byte) :
    decodeBytes op b1 b2 = decodeBytes op 0 0 := by
  rw [decodeBytes_take, h]
  rfl

theorem decodeBytes_of_length_two {op : Byte} (h : instrLength op = 2) (b1 b2 : Byte) :
    decodeBytes op b1 b2 = decodeBytes op b1 0 := by
  rw [decodeBytes_take, h]
  rfl

/-! ## The illegal bytes (R307) -/

theorem mem_illegalInstrs_iff {i : Instr} : i ∈ Machine.illegalInstrs ↔ ∃ op, (op, i) ∈ illegalTable := by
  rw [show Machine.illegalInstrs = illegalTable.map Prod.snd from rfl]
  simp

theorem mem_illegalBytes_iff {op : Byte} : op ∈ Machine.illegalBytes ↔ ∃ i, (op, i) ∈ illegalTable := by
  rw [show Machine.illegalBytes = illegalTable.map Prod.fst from rfl]
  simp

section
variable {op : Byte} {i : Instr} (h : (op, i) ∈ illegalTable)
include h

theorem encode_illegal : i.encode = [op] := by
  have rows : ∀ row ∈ illegalTable, row.2.encode = [row.1] := by decide
  exact rows (op, i) h

theorem instrLength_illegal : instrLength op = 1 := by
  have rows : ∀ row ∈ illegalTable, instrLength row.1 = 1 := by decide
  exact rows (op, i) h

/-- An illegal byte decodes to its row, whatever stands after it. -/
theorem decodeBytes_illegal (b1 b2 : Byte) : decodeBytes op b1 b2 = i := by
  have rows : ∀ row ∈ illegalTable, decodeBytes row.1 0 0 = row.2 := by decide
  rw [decodeBytes_of_length_one (instrLength_illegal h)]
  exact rows (op, i) h

end

/-- Exactly the illegal bytes decode to illegal rows: an illegal row encodes to its own byte. -/
theorem decodeBytes_mem_illegalInstrs {op : Byte} (b1 b2 : Byte) :
    decodeBytes op b1 b2 ∈ Machine.illegalInstrs ↔ op ∈ Machine.illegalBytes := by
  rw [mem_illegalInstrs_iff, mem_illegalBytes_iff]
  constructor
  · rintro ⟨op', h⟩
    have hencode := (encode_decodeBytes op b1 b2).symm.trans (encode_illegal h)
    have hop : op = op' := by
      rcases instrLength_cases op with hl | hl | hl <;> rw [hl] at hencode <;> cases hencode
      rfl
    subst hop
    exact ⟨_, h⟩
  · rintro ⟨i, h⟩
    exact ⟨op, (decodeBytes_illegal h b1 b2).symm ▸ h⟩

/-- No extended entry is an illegal row: it encodes to two bytes (R309). -/
theorem decodeExtended_not_mem_illegalInstrs (op2 : Byte) : decodeExtended op2 ∉ Machine.illegalInstrs := by
  rw [mem_illegalInstrs_iff]
  rintro ⟨op, h⟩
  cases (encode_decodeExtended op2).symm.trans (encode_illegal h)

/-! ## Every well-formed instruction is an entry of one of the tables (R308, R309) -/

theorem Opnd8.exists_ofCode (o : Opnd8) : ∃ y, Opnd8.ofCode y = o := by
  rcases o with ⟨_ | _ | _ | _ | _ | _ | _⟩ | _
  exacts [⟨0, rfl⟩, ⟨1, rfl⟩, ⟨2, rfl⟩, ⟨3, rfl⟩, ⟨4, rfl⟩, ⟨5, rfl⟩, ⟨7, rfl⟩, ⟨6, rfl⟩]

theorem AluOp.exists_ofCode (op : AluOp) : ∃ y, AluOp.ofCode y = op := by
  cases op
  exacts [⟨0, rfl⟩, ⟨1, rfl⟩, ⟨2, rfl⟩, ⟨3, rfl⟩, ⟨4, rfl⟩, ⟨5, rfl⟩, ⟨6, rfl⟩, ⟨7, rfl⟩]

theorem RotOp.exists_ofCode (op : RotOp) : ∃ y, RotOp.ofCode y = op := by
  cases op
  exacts [⟨0, rfl⟩, ⟨1, rfl⟩, ⟨2, rfl⟩, ⟨3, rfl⟩, ⟨4, rfl⟩, ⟨5, rfl⟩, ⟨6, rfl⟩, ⟨7, rfl⟩]

/-- The instruction is the one at some bytes. -/
def Instr.Decoded (i : Instr) : Prop := ∃ op b1 b2, decodeBytes op b1 b2 = i

/-- The first byte an instruction encodes to shows that it is decoded, when no operand byte takes part. -/
theorem Instr.Decoded.of_first {i : Instr} (h : decodeBytes (i.encode.headD 0) 0 0 = i) : i.Decoded := ⟨_, _, _, h⟩

theorem decodePrimary_decoded {op : Byte} (h : op ≠ prefixByte) (b1 b2 : Byte) : (decodePrimary op b1 b2).Decoded :=
  ⟨op, b1, b2, if_neg h⟩

theorem decodeExtended_decoded (op2 : Byte) : (decodeExtended op2).Decoded := ⟨prefixByte, op2, 0, if_pos rfl⟩

theorem decodeX0_decoded (y z : Fin 8) (b1 b2 : Byte) : (decodeX0 y z b1 b2).Decoded := by
  rw [← decodePrimary_opOf_zero]
  exact decodePrimary_decoded (fun h => absurd (opOf_eq_prefixByte h).1 (by decide)) b1 b2

theorem decodeX3_decoded (y z : Fin 8) (b1 b2 : Byte) (h : ¬(y = 1 ∧ z = 3) := by simp) :
    (decodeX3 y z b1 b2).Decoded := by
  rw [← decodePrimary_opOf_three]
  exact decodePrimary_decoded (fun hop => h (opOf_eq_prefixByte hop).2) b1 b2

theorem ld_decoded (y z : Opnd8) : (Instr.ld y z).Decoded := by
  obtain ⟨y, rfl⟩ := y.exists_ofCode
  obtain ⟨z, rfl⟩ := z.exists_ofCode
  rw [← decodePrimary_opOf_one y z 0 0]
  exact decodePrimary_decoded (fun h => absurd (opOf_eq_prefixByte h).1 (by decide)) 0 0

theorem alu_decoded (op : AluOp) (src : AluSrc) : (Instr.alu op src).Decoded := by
  obtain ⟨y, rfl⟩ := op.exists_ofCode
  cases src with
  | opnd o =>
    obtain ⟨z, rfl⟩ := o.exists_ofCode
    rw [← decodePrimary_opOf_two y z 0 0]
    exact decodePrimary_decoded (fun h => absurd (opOf_eq_prefixByte h).1 (by decide)) 0 0
  | imm n => exact decodeX3_decoded y 6 n 0

theorem rot_decoded (op : RotOp) (o : Opnd8) : (Instr.rot op o).Decoded := by
  obtain ⟨y, rfl⟩ := op.exists_ofCode
  obtain ⟨z, rfl⟩ := o.exists_ofCode
  exact decodeExtended_opOf_zero y z ▸ decodeExtended_decoded _

theorem bit_decoded (b : Fin 8) (o : Opnd8) : (Instr.bit b o).Decoded := by
  obtain ⟨z, rfl⟩ := o.exists_ofCode
  exact decodeExtended_opOf_one b z ▸ decodeExtended_decoded _

theorem res_decoded (b : Fin 8) (o : Opnd8) : (Instr.res b o).Decoded := by
  obtain ⟨z, rfl⟩ := o.exists_ofCode
  exact decodeExtended_opOf_two b z ▸ decodeExtended_decoded _

theorem set_decoded (b : Fin 8) (o : Opnd8) : (Instr.set b o).Decoded := by
  obtain ⟨z, rfl⟩ := o.exists_ofCode
  exact decodeExtended_opOf_three b z ▸ decodeExtended_decoded _

theorem inc8_decoded (o : Opnd8) : (Instr.inc8 o).Decoded := by
  obtain ⟨y, rfl⟩ := o.exists_ofCode
  exact decodeX0_decoded y 4 0 0

theorem dec8_decoded (o : Opnd8) : (Instr.dec8 o).Decoded := by
  obtain ⟨y, rfl⟩ := o.exists_ofCode
  exact decodeX0_decoded y 5 0 0

theorem ldN8_decoded (o : Opnd8) (n : Byte) : (Instr.ldN8 o n).Decoded := by
  obtain ⟨y, rfl⟩ := o.exists_ofCode
  exact decodeX0_decoded y 6 n 0

theorem ldN16_decoded (r : R16) (n : Word) : (Instr.ldN16 r n).Decoded := by
  rw [← wordOf_hiByte_loByte n]
  cases r
  exacts [decodeX0_decoded 0 1 .., decodeX0_decoded 2 1 .., decodeX0_decoded 4 1 .., decodeX0_decoded 6 1 ..]

theorem jrCc_decoded (cc : Cond) (e : Byte) : (Instr.jrCc cc e).Decoded := by
  cases cc
  exacts [decodeX0_decoded 4 0 e 0, decodeX0_decoded 5 0 e 0, decodeX0_decoded 6 0 e 0, decodeX0_decoded 7 0 e 0]

theorem jpCc_decoded (cc : Cond) (a : Word) : (Instr.jpCc cc a).Decoded := by
  rw [← wordOf_hiByte_loByte a]
  cases cc
  exacts [decodeX3_decoded 0 2 _ _, decodeX3_decoded 1 2 _ _, decodeX3_decoded 2 2 _ _, decodeX3_decoded 3 2 _ _]

theorem callCc_decoded (cc : Cond) (a : Word) : (Instr.callCc cc a).Decoded := by
  rw [← wordOf_hiByte_loByte a]
  cases cc
  exacts [decodeX3_decoded 0 4 _ _, decodeX3_decoded 1 4 _ _, decodeX3_decoded 2 4 _ _, decodeX3_decoded 3 4 _ _]

theorem Instr.decoded {i : Instr} (h : i.wellFormed = true) : i.Decoded := by
  cases i.form with
  | ld y z => exact ld_decoded y z
  | alu op src => exact alu_decoded op src
  | rot op o => exact rot_decoded op o
  | bit b o => exact bit_decoded b o
  | res b o => exact res_decoded b o
  | set b o => exact set_decoded b o
  | inc8 o => exact inc8_decoded o
  | dec8 o => exact dec8_decoded o
  | ldN8 o n => exact ldN8_decoded o n
  | ldN16 r n => exact ldN16_decoded r n
  | jrCc cc e => exact jrCc_decoded cc e
  | jpCc cc a => exact jpCc_decoded cc a
  | callCc cc a => exact callCc_decoded cc a
  | inc16 r | dec16 r | addHL r | push r | pop r | ldMemA r | ldAMem r | retCc r => cases r <;> exact .of_first rfl
  | rst y => exact decodeX3_decoded y 7 0 0
  | ld_ma16_SP a => exact wordOf_hiByte_loByte a ▸ decodeX0_decoded 1 0 (loByte a) (hiByte a)
  | stop x => exact decodeX0_decoded 2 0 x 0
  | jr_e8 e => exact decodeX0_decoded 3 0 e 0
  | ldh_ma8_A a => exact decodeX3_decoded 4 0 a 0
  | add_SP_e8 e => exact decodeX3_decoded 5 0 e 0
  | ldh_A_ma8 a => exact decodeX3_decoded 6 0 a 0
  | ld_HL_SPe8 e => exact decodeX3_decoded 7 0 e 0
  | ld_ma16_A a => exact wordOf_hiByte_loByte a ▸ decodeX3_decoded 5 2 (loByte a) (hiByte a)
  | ld_A_ma16 a => exact wordOf_hiByte_loByte a ▸ decodeX3_decoded 7 2 (loByte a) (hiByte a)
  | jp_a16 a => exact wordOf_hiByte_loByte a ▸ decodeX3_decoded 0 3 (loByte a) (hiByte a)
  | call_a16 a => exact wordOf_hiByte_loByte a ▸ decodeX3_decoded 1 5 (loByte a) (hiByte a)
  | illegal op i hi => exact ⟨op, 0, 0, decodeBytes_illegal hi 0 0⟩
  | prefixCB op2 => cases h
  | nop | halt | di | ei | daa | cpl | scf | ccf | rlca | rrca | rla | rra | ld_mC_A | ld_A_mC | ld_SP_HL | jp_HL | ret
  | reti => exact .of_first rfl

/-! ## The round trips -/

/-- Decoding the bytes of an instruction gives it back and leaves what follows (R301, R302). -/
theorem Instr.Decoded.decode_encode {i : Instr} (h : i.Decoded) (rest : List Byte) :
    decode (i.encode ++ rest) = .ok (i, rest) := by
  obtain ⟨op, b1, b2, rfl⟩ := h
  rw [encode_decodeBytes]
  rcases instrLength_cases op with hl | hl | hl <;> rw [hl]
  · rw [decodeBytes_of_length_one hl, ← decodeBytes_of_length_one hl (rest.getD 0 0) (rest.getD 1 0)]
    exact decode_one hl
  · rw [decodeBytes_of_length_two hl, ← decodeBytes_of_length_two hl b1 (rest.getD 0 0)]
    exact decode_two hl
  · exact decode_three hl

theorem Instr.Decoded.decode_eq {i : Instr} {bytes : List Byte} (h : i.Decoded) (hencode : i.encode = bytes) :
    decode bytes = .ok (i, []) := by
  rw [← hencode, ← h.decode_encode, List.append_nil]

theorem decode_of_encode {i : Instr} {bytes : List Byte} (hwf : i.wellFormed = true) (hencode : i.encode = bytes) :
    decode bytes = .ok (i, []) :=
  (Instr.decoded hwf).decode_eq hencode

/-- An instruction decoded encodes to the bytes read. -/
theorem encode_of_decode {bytes rest : List Byte} {i : Instr} (h : decode bytes = .ok (i, rest)) :
    i.encode ++ rest = bytes := by
  rcases decode_ok h with ⟨op, rfl, hl, rfl⟩ | ⟨op, b1, rfl, hl, rfl⟩ | ⟨op, b1, b2, rfl, hl, rfl⟩ <;>
    rw [encode_decodeBytes, hl] <;> rfl

theorem wellFormed_of_decode {bytes rest : List Byte} {i : Instr} (h : decode bytes = .ok (i, rest)) :
    i.wellFormed = true := by
  rcases decode_ok h with ⟨op, -, -, rfl⟩ | ⟨op, b1, -, -, rfl⟩ | ⟨op, b1, b2, -, -, rfl⟩ <;>
    exact decodeBytes_wellFormed ..

/-- With at least three bytes the decoder always answers (R300). -/
theorem decode_three_bytes (op b1 b2 : Byte) (rest : List Byte) :
    decode (op :: b1 :: b2 :: rest) =
      .ok (decodeBytes op b1 b2, (op :: b1 :: b2 :: rest).drop (instrLength op)) := by
  rcases instrLength_cases op with hl | hl | hl <;> rw [hl]
  · exact decode_one hl
  · exact decode_two hl
  · exact decode_three hl

/-! ## The rows of the columns of R8[y] and ALU[y] (R308, R310, R315) -/

theorem encode_inc8 (y : Fin 8) : (Instr.inc8 (.ofCode y)).encode = [BitVec.ofNat 8 (0x04 + 8 * y.val)] := by
  revert y; decide

theorem encode_dec8 (y : Fin 8) : (Instr.dec8 (.ofCode y)).encode = [BitVec.ofNat 8 (0x05 + 8 * y.val)] := by
  revert y; decide

theorem encode_ldN8 (y : Fin 8) (n : Byte) :
    (Instr.ldN8 (.ofCode y) n).encode = [BitVec.ofNat 8 (0x06 + 8 * y.val), n] := by
  fin_cases y <;> rfl

theorem encode_alu_imm (y : Fin 8) (n : Byte) :
    (Instr.alu (.ofCode y) (.imm n)).encode = [BitVec.ofNat 8 (0xC6 + 8 * y.val), n] := by
  fin_cases y <;> rfl

/-- A word operand is encoded low byte first (R321). -/
theorem wordOf_operands (op hi lo : Byte) : [op, loByte (wordOf hi lo), hiByte (wordOf hi lo)] = [op, lo, hi] := by
  rw [loByte_wordOf, hiByte_wordOf]

end Sys2Proof

/-! ## The step and the decoder -/

namespace Sys2Proof.Machine

/-- The obligations' word for a dispatch is the step's own test (R808). -/
theorem State.dispatches_iff (t : State) : t.Dispatches ↔ (t.irqSeen && t.ime) = true := by
  simp only [State.irqSeen, Bool.and_eq_true, decide_eq_true_eq, and_assoc]
  rfl

theorem State.Executes.modePrimary {t : State} (h : t.Executes) : t.mode = .primary := h.2.1

theorem State.Executes.step_eq {s t : State} (ht : t = s.takeInput) (h : t.Executes) : step s = t.executeStep := by
  obtain ⟨hrun, -, hdispatch⟩ := h
  rw [State.dispatches_iff] at hdispatch
  rcases step_cases s t ht with ⟨hr, -⟩ | ⟨-, hd, -⟩ | ⟨hr | ⟨hr, -⟩, -⟩ | ⟨-, -, hstep⟩
  · rw [hrun] at hr; cases hr
  · exact absurd hd hdispatch
  · rw [hrun] at hr; cases hr
  · rw [hrun] at hr; cases hr
  · exact hstep

/-- The bytes at PC decode to the instruction at them. -/
theorem State.decode_code {t : State} {i : Instr} {rest : List Byte} (h : decode t.code = .ok (i, rest)) :
    i = decodeBytes (t.memRead t.pc) (t.memRead (t.pc + 1)) (t.memRead (t.pc + 2)) := by
  have hcode := decode_three_bytes (t.memRead t.pc) (t.memRead (t.pc + 1)) (t.memRead (t.pc + 2)) []
  cases h.symm.trans hcode
  rfl

/-! ## Who enters HaltedError -/

theorem exec_enters_haltedError {i : Instr} {s t : State} (h : exec i s = .next t) (hs : s.run ≠ .haltedError)
    (ht : t.run = .haltedError) : i ∈ illegalInstrs := by
  obtain ⟨u, hu, hcase⟩ := exec_cases i s
  cases exec_unique h hu
  rcases hcase with heffect | hsystem
  · exact absurd ((congrArg Control.run heffect.control).symm.trans ht) hs
  · cases hsystem with
    | illegal op i hi => exact mem_illegalInstrs hi
    | halt | stop => cases ht
    | di | ei => exact absurd ht hs
    | reti => exact absurd (by simpa [retiOp] using ht) hs

theorem State.fetch_run (s : State) : s.fetch.2.run = s.run := by
  unfold State.fetch State.fetchPrimary State.fetchExtended
  split
  · dsimp only
    split <;> rfl
  · rfl

/-- A fetch answers an illegal row for an illegal byte only, in either table. -/
theorem State.fetch_illegal {s : State} (h : s.fetch.1 ∈ illegalInstrs) : s.memRead s.pc ∈ illegalBytes := by
  rcases hmode : s.mode with _ | _
  · rw [State.fetch_primary hmode] at h
    exact (decodeBytes_mem_illegalInstrs ..).1 h
  · rw [State.fetch, hmode] at h
    exact absurd h (decodeExtended_not_mem_illegalInstrs _)

theorem State.executeStep_enters_haltedError {s t : State} (h : s.executeStep = .next t) (hs : s.run ≠ .haltedError)
    (ht : t.run = .haltedError) : s.memRead s.pc ∈ illegalBytes := by
  obtain ⟨u, hu⟩ := exec_next s.beginInstr.fetch.1 s.beginInstr.fetch.2
  have hstep : s.executeStep = .next u.endInstr := congrArg (Out.mapNext State.endInstr) hu
  cases h.symm.trans hstep
  have hfetch : s.beginInstr.fetch.2.run ≠ .haltedError := by rwa [State.fetch_run]
  exact State.fetch_illegal (s := s.beginInstr) (exec_enters_haltedError hu hfetch ht)

theorem step_enters_haltedError {s t : State} (h : step s = .next t) (hs : s.run ≠ .haltedError)
    (ht : t.run = .haltedError) : s.takeInput.memRead s.pc ∈ illegalBytes := by
  have hrun : s.takeInput.run ≠ .haltedError := by rwa [State.takeInput_run]
  rcases step_cases s _ rfl with ⟨hr, -⟩ | ⟨-, -, hstep⟩ | ⟨-, hstep⟩ | ⟨-, -, hstep⟩
  · exact absurd hr hrun
  · cases h.symm.trans hstep
    rw [State.takeInterrupt_run] at ht
    cases ht
  · cases h.symm.trans hstep
    rw [State.charge_run] at ht
    dsimp only at ht
    split at ht
    · cases ht
    · exact absurd ht hrun
  · rw [← State.takeInput_pc s]
    exact State.executeStep_enters_haltedError (hstep.symm.trans h) hrun ht

/-- An executing step at an illegal byte raises IllegalOpcode with the byte and its address (R752, R801). -/
theorem State.executeStep_illegal {t : State} {op : Byte} (hmode : t.mode = .primary) (hop : t.memRead t.pc = op)
    (h : op ∈ illegalBytes) :
    t.executeStep = .next { t with
      run := .haltedError, err := some ⟨op, t.pc⟩, pc := t.pc + 1, eiPending := false, apply := false
      result := some (.error ⟨op, t.pc⟩) } := by
  obtain ⟨i, hi⟩ := mem_illegalBytes_iff.1 h
  obtain ⟨u, hu, hstep⟩ := State.executeStep_primary hmode
  rw [hop, decodeBytes_illegal hi, instrLength_illegal hi] at hu
  cases exec_unique hu (exec_illegal hi _)
  rw [hstep]
  simp [State.raiseIllegal]

end Sys2Proof.Machine

/-! ## The obligations on the encoding -/

namespace Sys2Proof.Proofs
open Sys2Proof.Machine

/-- Settles O11: a well-formed instruction is an entry of one of the tables, and an entry is read back from its bytes. -/
theorem decodeOfEncodeIsTheInstruction : Obligations.DecodeOfEncodeIsTheInstruction :=
  fun _ rest h => (Instr.decoded h).decode_encode rest

/-- Settles O12: the instruction at some bytes encodes to as many of them as the first says, and is never PREFIX_CB. -/
theorem encodeOfDecodeIsTheBytes : Obligations.EncodeOfDecodeIsTheBytes :=
  fun _ _ _ h => ⟨wellFormed_of_decode h, encode_of_decode h⟩

/-- Settles O10: the tables and the reads are the definitions'; each row named encodes to the bytes given, so these decode
to it. -/
theorem fieldsSelectTheirOperands : Obligations.FieldsSelectTheirOperands := by
  refine ⟨⟨rfl, rfl, rfl, rfl, rfl, rfl, rfl, ?_⟩, fun y z n => ?_, fun p lo hi => ?_, fun s => ?_⟩
  · rintro (⟨_ | _ | _ | _ | _ | _ | _⟩ | _) <;> exact ⟨by decide, rfl⟩
  · exact ⟨(ld_decoded ..).decode_eq (encode_ld y z), (alu_decoded ..).decode_eq (encode_alu_opnd y z),
      (inc8_decoded _).decode_eq (encode_inc8 y), (dec8_decoded _).decode_eq (encode_dec8 y),
      (ldN8_decoded ..).decode_eq (encode_ldN8 y n), (alu_decoded ..).decode_eq (encode_alu_imm y n),
      (rot_decoded ..).decode_eq (encode_rot y z), (bit_decoded ..).decode_eq (encode_bit y z),
      (res_decoded ..).decode_eq (encode_res y z), (set_decoded ..).decode_eq (encode_set y z)⟩
  · match p with
    | 0 | 1 | 2 | 3 =>
      exact ⟨decode_of_encode rfl (wordOf_operands ..), decode_of_encode rfl rfl, decode_of_encode rfl rfl,
        decode_of_encode rfl rfl, decode_of_encode rfl rfl, decode_of_encode rfl rfl, decode_of_encode rfl rfl,
        decode_of_encode rfl rfl, decode_of_encode rfl rfl, decode_of_encode rfl (wordOf_operands ..),
        decode_of_encode rfl (wordOf_operands ..), decode_of_encode rfl rfl⟩
  · exact ⟨rfl, fun _ => rfl, rfl, rfl, rfl, rfl, rfl, rfl, rfl, rfl, rfl, rfl, rfl, rfl, rfl, rfl,
      wordOf_hiByte_loByte _, wordOf_hiByte_loByte _, rfl, rfl, rfl, rfl⟩

/-- Settles O13: three bytes always decode, by as many of them as the first says; an extended entry has two bytes. -/
theorem everyByteDecodesWithItsLength : Obligations.EveryByteDecodesWithItsLength := by
  refine ⟨fun op b1 b2 rest => ?_, fun op2 => ⟨decode_two rfl, decodeExtended_not_mem_illegalInstrs op2⟩⟩
  intro length
  have hlength : length = instrLength op := by
    clear b1 b2 rest
    revert op
    decide
  rw [hlength]
  refine ⟨decodeBytes op b1 b2, length_encode_decodeBytes op b1 b2, ?_, decode_three_bytes op b1 b2 rest⟩
  rw [encode_decodeBytes]
  rcases instrLength_cases op with hl | hl | hl <;> rw [hl] <;> rfl

/-- Settles O47: the illegal rows encode to the illegal bytes, raising is their whole meaning, and by what an instruction
can do no other enters HaltedError. -/
theorem illegalOpcodesRaise : Obligations.IllegalOpcodesRaise := by
  refine ⟨rfl, fun op b1 b2 i rest h => ?_, fun s op i h => exec_illegal h s, fun s t op ht hexec hop h => ?_,
    fun s t => step_enters_haltedError⟩
  · cases h.symm.trans (decode_three_bytes op b1 b2 [])
    exact decodeBytes_mem_illegalInstrs b1 b2
  · rw [hexec.step_eq ht]
    exact State.executeStep_illegal hexec.modePrimary hop h

/-- Settles O14: each word is evaluated by the decoder. -/
theorem specWordsDecode : Obligations.SpecWordsDecode :=
  ⟨rfl, rfl, rfl, rfl, rfl, rfl, rfl, rfl, rfl, rfl, rfl, rfl, rfl, rfl, rfl, rfl, rfl, rfl, rfl, rfl, rfl, rfl⟩

/-- Settles O50: the step fetches the instruction at the bytes at PC, whose length is that of its encoding. -/
theorem stepRunsTheDecodedInstruction : Obligations.StepRunsTheDecodedInstruction := by
  intro s t i rest ht hexec h
  rw [hexec.step_eq ht, State.decode_code h, length_encode_decodeBytes]
  exact State.executeStep_primary hexec.modePrimary

end Sys2Proof.Proofs

/-! PROOFS. 8-bit arithmetic and logic (spec/40_alu8.md). The pure functions are written in the exact arithmetic of the
rules, and the next state of each shared operation is said once, for every operation and operand. -/

namespace Sys2Proof

/-! ## The opcodes by operand code (R308, R310) -/

theorem Opnd8.code_ofCode (z : Fin 8) : (Opnd8.ofCode z).code = z.val := by
  revert z; decide

theorem encode_alu_opnd_code (y : Fin 8) (o : Opnd8) :
    (Instr.alu (.ofCode y) (.opnd o)).encode = [BitVec.ofNat 8 (0x80 + 8 * y.val + o.code)] := by
  obtain ⟨z, rfl⟩ := o.exists_ofCode
  rw [Opnd8.code_ofCode]
  exact encode_alu_opnd y z

theorem encode_inc8_code (o : Opnd8) : (Instr.inc8 o).encode = [BitVec.ofNat 8 (0x04 + 8 * o.code)] := by
  obtain ⟨y, rfl⟩ := o.exists_ofCode
  rw [Opnd8.code_ofCode]
  exact encode_inc8 y

theorem encode_dec8_code (o : Opnd8) : (Instr.dec8 o).encode = [BitVec.ofNat 8 (0x05 + 8 * o.code)] := by
  obtain ⟨y, rfl⟩ := o.exists_ofCode
  rw [Opnd8.code_ofCode]
  exact encode_dec8 y

end Sys2Proof

namespace Sys2Proof.Machine

/-! ## The pure functions in exact arithmetic -/

theorem byte_eq_zero_iff (v : Byte) : v = 0 ↔ v.toNat = 0 := BitVec.toNat_inj.symm

/-- A sum reduced to a byte is 0 exactly when it is a multiple of 256. -/
theorem byte_ofNat_eq_zero_iff (t : Nat) : BitVec.ofNat 8 t = 0 ↔ t % 256 = 0 := by
  rw [byte_eq_zero_iff, BitVec.toNat_ofNat]

/-- A difference reduced to a byte is 0 exactly when it is a multiple of 256. -/
theorem byte_ofInt_eq_zero_iff (t : Int) : BitVec.ofInt 8 t = 0 ↔ t % 256 = 0 := by
  rw [byte_eq_zero_iff, BitVec.toNat_ofInt]
  omega

/-- The low nibble of a byte (R426, R428). -/
theorem lowNibble_toNat (v : Byte) : (v &&& 0xF).toNat = v.toNat % 16 :=
  Nat.and_two_pow_sub_one_eq_mod v.toNat 4

theorem lowNibble_eq_iff (v n : Byte) : v &&& 0xF = n ↔ v.toNat % 16 = n.toNat := by
  rw [← BitVec.toNat_inj, lowNibble_toNat]

/-- R400, with Z read off the exact sum. -/
theorem add8_eq (a b : Byte) (cin : Bool) :
    add8 a b cin = ⟨BitVec.ofNat 8 (a.toNat + b.toNat + cin.toNat), decide ((a.toNat + b.toNat + cin.toNat) % 256 = 0),
      false, decide (a.toNat % 16 + b.toNat % 16 + cin.toNat > 0xF), decide (a.toNat + b.toNat + cin.toNat > 0xFF)⟩ := by
  simp only [add8, byte_ofNat_eq_zero_iff]

/-- R401, with Z read off the exact difference. -/
theorem sub8_eq (a b : Byte) (cin : Bool) :
    sub8 a b cin = ⟨BitVec.ofInt 8 ((a.toNat : Int) - b.toNat - cin.toNat),
      decide (((a.toNat : Int) - b.toNat - cin.toNat) % 256 = 0), true,
      decide ((a.toNat : Int) % 16 - (b.toNat : Int) % 16 - cin.toNat < 0),
      decide ((a.toNat : Int) - b.toNat - cin.toNat < 0)⟩ := by
  simp only [sub8, byte_ofInt_eq_zero_iff, Int.natCast_mod, Nat.cast_ofNat]

theorem and8_eq (a b : Byte) : and8 a b = ⟨a &&& b, decide ((a &&& b).toNat = 0), false, true, false⟩ := by
  simp only [and8, byte_eq_zero_iff]

theorem xor8_eq (a b : Byte) : xor8 a b = ⟨a ^^^ b, decide ((a ^^^ b).toNat = 0), false, false, false⟩ := by
  simp only [xor8, byte_eq_zero_iff]

theorem or8_eq (a b : Byte) : or8 a b = ⟨a ||| b, decide ((a ||| b).toNat = 0), false, false, false⟩ := by
  simp only [or8, byte_eq_zero_iff]

/-- R426 in exact arithmetic. -/
theorem inc8_eq (v : Byte) :
    inc8 v = (BitVec.ofNat 8 (v.toNat + 1), decide ((v.toNat + 1) % 256 = 0), decide (v.toNat % 16 = 0xF)) := by
  have hres : v + 1 = BitVec.ofNat 8 (v.toNat + 1) := rfl
  rw [inc8, hres]
  simp only [byte_ofNat_eq_zero_iff, lowNibble_eq_iff]
  rfl

/-- R428 in exact arithmetic. -/
theorem dec8_eq (v : Byte) :
    dec8 v = (BitVec.ofInt 8 ((v.toNat : Int) - 1), decide (v.toNat = 1), decide (v.toNat % 16 = 0x0)) := by
  have hres : v - 1 = BitVec.ofInt 8 ((v.toNat : Int) - 1) := by
    apply BitVec.eq_of_toNat_eq
    rw [BitVec.toNat_ofInt]
    bv_omega
  have hzero : v - 1 = 0 ↔ v.toNat = 1 := by bv_omega
  simp only [dec8, hzero, lowNibble_eq_iff]
  rw [hres]
  rfl

/-- Adding a byte is subtracting its complement modulo 256 (R430). -/
theorem add8_res_eq_sub8_complement (a b : Byte) :
    (add8 a b false).res = (sub8 a (BitVec.ofNat 8 ((256 - b.toNat) % 256)) false).res := by
  rw [add8_eq, sub8_eq]
  apply BitVec.eq_of_toNat_eq
  simp only [BitVec.toNat_ofNat, BitVec.toNat_ofInt, Bool.toNat_false]
  omega

/-! ## The next state of the shared operations -/

section
variable {src : AluSrc} {s : State} {res : Byte} {z n h c : Bool}

/-- Every row of the ALU column but CP, from the result and the flags of its operation: A takes the result, F the four
flags, and nothing else changes (R402 to R422). -/
theorem exec_alu_eq {op : AluOp} (hop : op ≠ .cp) (hout : alu op s.a (s.getSrc src) s.cf = ⟨res, z, n, h, c⟩) :
    exec (Instr.alu op src) s = .next { s with
      a := res, f := flagByte z n h c, result := some (.cycles (aluCost src)) } := by
  rw [exec_alu, aluOp, hout, State.flags_eq]
  · rfl
  · exact hop

/-- CP writes the flags and keeps A (R423 to R425). -/
theorem exec_cp_eq (hout : sub8 s.a (s.getSrc src) false = ⟨res, z, n, h, c⟩) :
    exec (Instr.alu .cp src) s = .next { s with
      f := flagByte z n h c, result := some (.cycles (aluCost src)) } := by
  rw [exec_alu, aluOp, alu, hout, State.flags_eq]
  rfl

end

/-- INC of every operand: its byte, Z, N, H and the cost; C is kept (R426, R427). -/
theorem inc8Op_eq (o : Opnd8) (s : State) :
    inc8Op o s = { s.putOpnd o (inc8 (s.getOpnd o)).1 with
      f := flagByte (inc8 (s.getOpnd o)).2.1 false (inc8 (s.getOpnd o)).2.2 s.cf
      result := some (.cycles (incDecCost o)) } := by
  simp only [inc8Op, State.flags_eq, State.charge, State.putOpnd_cf, Option.getD]

/-- DEC of every operand: its byte, Z, N, H and the cost; C is kept (R428, R429). -/
theorem dec8Op_eq (o : Opnd8) (s : State) :
    dec8Op o s = { s.putOpnd o (dec8 (s.getOpnd o)).1 with
      f := flagByte (dec8 (s.getOpnd o)).2.1 true (dec8 (s.getOpnd o)).2.2 s.cf
      result := some (.cycles (incDecCost o)) } := by
  simp only [dec8Op, State.flags_eq, State.charge, State.putOpnd_cf, Option.getD]

/-- XOR A (R417). -/
theorem aluOp_xor_self (s : State) :
    (aluOp .xor (.opnd (.reg .a)) s).a = 0 ∧ (aluOp .xor (.opnd (.reg .a)) s).zf = true := by
  have hself : alu .xor s.a (s.getSrc (.opnd (.reg .a))) s.cf = ⟨0, true, false, false, false⟩ := by
    simp [alu, xor8, State.getSrc, State.getOpnd, State.getR8]
  simp [aluOp, hself, State.setR8]

@[simp] theorem State.putOpnd_control (s : State) (o : Opnd8) (v : Byte) : (s.putOpnd o v).control = s.control := by
  simp [State.control]

theorem inc8Op_control (o : Opnd8) (s : State) : (inc8Op o s).control = s.control := by
  rw [inc8Op_eq]
  exact s.putOpnd_control o _

theorem dec8Op_control (o : Opnd8) (s : State) : (dec8Op o s).control = s.control := by
  rw [dec8Op_eq]
  exact s.putOpnd_control o _

theorem incDecCost_eq (o : Opnd8) : incDecCost o = byOperand o 4 12 := by
  cases o <;> rfl

/-! ## An operand after an operation on it -/

/-- Writing an operand puts the byte there and changes nothing else (R310). -/
theorem State.putOpnd_puts (s : State) (o : Opnd8) (v : Byte) : Puts s (s.putOpnd o v) o v := by
  cases o with
  | reg r => rfl
  | mHL => exact ⟨fun hwf x => State.memRead_memWrite hwf s.hl x v, rfl⟩

/-- An operand written is read back. -/
theorem State.putOpnd_getOpnd_same {s : State} (hwf : s.mem.wf = true) (o : Opnd8) (v : Byte) :
    (s.putOpnd o v).getOpnd o = v := by
  cases o with
  | reg r => exact s.setR8_getR8_same r v
  | mHL => exact (State.memRead_memWrite hwf s.hl s.hl v).trans (if_pos rfl)

@[simp] theorem State.flags_getOpnd (s : State) (z n h c : Option Bool) (o : Opnd8) :
    (s.flags z n h c).getOpnd o = s.getOpnd o := by
  rcases o with ⟨_ | _ | _ | _ | _ | _ | _⟩ | _ <;> rfl

@[simp] theorem State.charge_getOpnd (s : State) (n : Nat) (o : Opnd8) : (s.charge n).getOpnd o = s.getOpnd o := by
  rcases o with ⟨_ | _ | _ | _ | _ | _ | _⟩ | _ <;> rfl

theorem inc8Op_getOpnd {s : State} (hwf : s.mem.wf = true) (o : Opnd8) :
    (inc8Op o s).getOpnd o = s.getOpnd o + 1 := by
  simp only [inc8Op, State.charge_getOpnd, State.flags_getOpnd]
  exact State.putOpnd_getOpnd_same hwf o _

theorem dec8Op_getOpnd {s : State} (hwf : s.mem.wf = true) (o : Opnd8) :
    (dec8Op o s).getOpnd o = s.getOpnd o - 1 := by
  simp only [dec8Op, State.charge_getOpnd, State.flags_getOpnd]
  exact State.putOpnd_getOpnd_same hwf o _

end Sys2Proof.Machine

/-! ## The obligations on 8-bit arithmetic and logic -/

namespace Sys2Proof.Proofs
open Sys2Proof.Machine

/-- Settles O15: the sum and its flags are `add8`'s in exact arithmetic, for every source. -/
theorem addAndAdcGiveTheSum : Obligations.AddAndAdcGiveTheSum := by
  intro src s v cost sum
  have hcin : (if s.cf then 1 else 0) = s.cf.toNat := by cases s.cf <;> rfl
  refine ⟨?_, ?_, fun o => ⟨rfl, encode_alu_opnd_code 0 o, encode_alu_opnd_code 1 o⟩,
    fun n => ⟨rfl, encode_alu_imm 0 n, encode_alu_imm 1 n⟩, add8_eq⟩
  · exact exec_alu_eq (op := .add) (by decide) (add8_eq s.a (s.getSrc src) false)
  · rw [hcin]
    exact exec_alu_eq (op := .adc) (by decide) (add8_eq s.a (s.getSrc src) s.cf)

/-- Settles O16: the difference and its borrows are `sub8`'s in exact arithmetic, for every source. -/
theorem subSbcAndCpGiveTheDifference : Obligations.SubSbcAndCpGiveTheDifference := by
  intro src s a v cost flagged
  have hcin : (if s.cf then (1 : Int) else 0) = s.cf.toNat := by cases s.cf <;> rfl
  have hsub := sub8_eq s.a (s.getSrc src) false
  simp only [Bool.toNat_false, Nat.cast_zero, sub_zero] at hsub
  simp only [flagged, sub_zero, hcin]
  refine ⟨?_, ?_, ?_,
    fun o => ⟨encode_alu_opnd_code 2 o, encode_alu_opnd_code 3 o, encode_alu_opnd_code 7 o⟩,
    fun n => ⟨encode_alu_imm 2 n, encode_alu_imm 3 n, encode_alu_imm 7 n⟩, sub8_eq⟩
  · exact exec_alu_eq (op := .sub) (by decide) hsub
  · exact exec_alu_eq (op := .sbc) (by decide) (sub8_eq s.a (s.getSrc src) s.cf)
  · exact exec_cp_eq hsub

/-- Settles O17: the result is the operation on the two bytes, which works bit by bit. -/
theorem andXorOrWorkBitByBit : Obligations.AndXorOrWorkBitByBit := by
  intro src s v cost gives
  refine ⟨⟨s.a &&& v, fun j _ => BitVec.getLsbD_and, ?_⟩, ⟨s.a ^^^ v, fun j _ => BitVec.getLsbD_xor, ?_⟩,
    ⟨s.a ||| v, fun j _ => BitVec.getLsbD_or, ?_⟩,
    fun o => ⟨encode_alu_opnd_code 4 o, encode_alu_opnd_code 5 o, encode_alu_opnd_code 6 o⟩,
    fun n => ⟨encode_alu_imm 4 n, encode_alu_imm 5 n, encode_alu_imm 6 n⟩⟩
  · exact exec_alu_eq (by decide) (and8_eq s.a v)
  · exact exec_alu_eq (by decide) (xor8_eq s.a v)
  · exact exec_alu_eq (by decide) (or8_eq s.a v)

/-- Settles O18: the operand is written through `putOpnd`, and the flags are those of `inc8` and `dec8`. -/
theorem incAndDec8ChangeByOne : Obligations.IncAndDec8ChangeByOne := by
  intro o s v cost
  refine ⟨⟨_, s.putOpnd_puts o _, ?_⟩, ⟨_, s.putOpnd_puts o _, ?_⟩, encode_inc8_code o, encode_dec8_code o⟩
  · rw [exec_inc8, inc8Op_eq, inc8_eq, incDecCost_eq]
  · rw [exec_dec8, dec8Op_eq, dec8_eq, incDecCost_eq]

/-- Settles O19: XOR of a byte with itself is 0; INC and DEC each read back what they wrote and keep C; the rest are laws of
`sub8` and `add8`, and each shared operation keeps the control state. -/
theorem alu8Laws : Obligations.Alu8Laws := by
  refine ⟨fun s x => ?_, fun s o hwf => ?_, sub8_borrow, add8_res_eq_sub8_complement, fun s op src o => ?_⟩
  · exact ⟨_, exec_alu .xor (.opnd (.reg .a)) _, aluOp_xor_self _⟩
  · have hwf' : (inc8Op o s).mem.wf = true := exec_keeps_wf hwf (exec_inc8 o s)
    have hback : (dec8Op o (inc8Op o s)).getOpnd o = s.getOpnd o := by
      rw [dec8Op_getOpnd hwf', inc8Op_getOpnd hwf, BitVec.add_sub_cancel]
    have hinc : (inc8Op o s).cf = s.cf := (inc8Op_flags o s).2
    exact ⟨_, _, exec_inc8 o s, exec_dec8 o _, hback, hinc, (dec8Op_flags o _).2.trans hinc⟩
  · have halu := (aluOp_effect (s := s) op src).control
    have hinc := inc8Op_control o s
    have hdec := dec8Op_control o s
    exact ⟨⟨_, exec_alu op src s, congrArg Control.err halu, congrArg Control.run halu⟩,
      ⟨_, exec_inc8 o s, congrArg Control.err hinc, congrArg Control.run hinc⟩,
      ⟨_, exec_dec8 o s, congrArg Control.err hdec, congrArg Control.run hdec⟩⟩

end Sys2Proof.Proofs

/-! PROOFS. 16-bit arithmetic (spec/41_alu16.md). Results are written as exact integers reduced modulo 2^16, and the next
state of each shared operation is said once, for every pair. -/

namespace Sys2Proof

/-! ## The opcodes by pair code (R308, R311) -/

theorem encode_inc16_code (r : R16) : (Instr.inc16 r).encode = [BitVec.ofNat 8 (0x03 + 16 * r.code)] := by
  cases r <;> rfl

theorem encode_dec16_code (r : R16) : (Instr.dec16 r).encode = [BitVec.ofNat 8 (0x0B + 16 * r.code)] := by
  cases r <;> rfl

theorem encode_addHL_code (r : R16) : (Instr.addHL r).encode = [BitVec.ofNat 8 (0x09 + 16 * r.code)] := by
  cases r <;> rfl

/-! ## The bytes of an integer reduced to a word -/

theorem hiByte_ofInt (t : Int) : hiByte (BitVec.ofInt 16 t) = BitVec.ofInt 8 (t / 256) := by
  apply BitVec.eq_of_toNat_eq
  rw [hiByte_toNat, BitVec.toNat_ofInt, BitVec.toNat_ofInt]
  omega

theorem loByte_ofInt (t : Int) : loByte (BitVec.ofInt 16 t) = BitVec.ofInt 8 t := by
  apply BitVec.eq_of_toNat_eq
  rw [loByte_toNat, BitVec.toNat_ofInt, BitVec.toNat_ofInt]
  omega

theorem hiByte_ofNat (t : Nat) : hiByte (BitVec.ofNat 16 t) = BitVec.ofNat 8 (t / 256) := hiByte_ofInt t

theorem loByte_ofNat (t : Nat) : loByte (BitVec.ofNat 16 t) = BitVec.ofNat 8 t := loByte_ofInt t

end Sys2Proof

namespace Sys2Proof.Machine

/-! ## The pure functions in exact arithmetic -/

/-- DEC of a word in exact arithmetic (R451). -/
theorem word_sub_one_eq_ofInt (w : Word) : w - 1 = BitVec.ofInt 16 ((w.toNat : Int) - 1) := by
  apply BitVec.eq_of_toNat_eq
  rw [BitVec.toNat_ofInt]
  bv_omega

/-- A word plus a sign-extended byte is the sum with the signed byte, modulo 2^16 (R16, R455). -/
theorem add_sext16_eq_ofInt (w : Word) (e : Byte) : w + sext16 e = BitVec.ofInt 16 ((w.toNat : Int) + e.toInt) := by
  rw [sext16_eq_signExtend, BitVec.ofInt_add, BitVec.ofInt_natCast, BitVec.ofNat_toNat, BitVec.setWidth_eq]
  rfl

/-- R455, with the result read off the exact sum. -/
theorem spe8_eq (sp : Word) (e : Byte) :
    spe8 sp e = (BitVec.ofInt 16 ((sp.toNat : Int) + e.toInt), decide (sp.toNat % 16 + e.toNat % 16 > 0x0F),
      decide (sp.toNat % 256 + e.toNat > 0xFF)) := by
  rw [spe8, add_sext16_eq_ofInt]

/-! ## A pair after a write to it (R103, R104) -/

@[simp] theorem State.setR16_getR16_same (s : State) (r : R16) (v : Word) : (s.setR16 r v).getR16 r = v := by
  cases r with
  | sp => rfl
  | bc | de | hl => exact wordOf_hiByte_loByte v

@[simp] theorem State.setR16_setR16_same (s : State) (r : R16) (v w : Word) :
    (s.setR16 r v).setR16 r w = s.setR16 r w := by
  cases r <;> rfl

/-- Writing back the value a pair has changes nothing. -/
@[simp] theorem State.setR16_getR16_self (s : State) (r : R16) : s.setR16 r (s.getR16 r) = s := by
  cases r with
  | sp => rfl
  | bc | de | hl => simp [State.setR16, State.setHl, State.getR16, State.bc, State.de, State.hl]

@[simp] theorem State.charge_getR16 (s : State) (n : Nat) (r : R16) : (s.charge n).getR16 r = s.getR16 r := by
  cases r <;> rfl

/-- The cost of an instruction and a write to a pair are separate parts of the state. -/
theorem State.charge_setR16 (s : State) (n : Nat) (r : R16) (v : Word) :
    (s.charge n).setR16 r v = (s.setR16 r v).charge n := by
  cases r <;> rfl

/-! ## The next state of the shared operations -/

theorem exec_addSp (e : Byte) (s : State) : exec (.add_SP_e8 e) s = .next (addSpOp e s) := rfl

theorem exec_ldHlSp (e : Byte) (s : State) : exec (.ld_HL_SPe8 e) s = .next (ldHlSpOp e s) := rfl

section
variable {s : State} {res : Word} {h c : Bool}

/-- ADD HL,rr of every pair, from its result and flags: HL takes the result, Z is kept, and nothing else changes (R454). -/
theorem addHlOp_eq {r : R16} (hout : add16 s.hl (s.getR16 r) = (res, h, c)) :
    addHlOp r s = { s with
      h := hiByte res, l := loByte res, f := flagByte s.zf false h c, result := some (.cycles 8) } := by
  rw [addHlOp, hout]
  simp only [State.flags_eq]
  rfl

/-- ADD SP,e8, from its result and flags: SP takes the result, and nothing else changes (R452). -/
theorem addSpOp_eq {e : Byte} (hout : spe8 s.sp e = (res, h, c)) :
    addSpOp e s = { s with sp := res, f := flagByte false false h c, result := some (.cycles 16) } := by
  rw [addSpOp, hout]
  simp only [State.flags_eq]
  rfl

/-- LD HL,SP+e8, from its result and flags: HL takes the result, and nothing else changes (R453). -/
theorem ldHlSpOp_eq {e : Byte} (hout : spe8 s.sp e = (res, h, c)) :
    ldHlSpOp e s = { s with
      h := hiByte res, l := loByte res, f := flagByte false false h c, result := some (.cycles 12) } := by
  rw [ldHlSpOp, hout]
  simp only [State.flags_eq]
  rfl

end

/-- DEC rr undoes INC rr; the cost alone is left (R456 a). -/
theorem dec16Op_inc16Op (r : R16) (s : State) : dec16Op r (inc16Op r s) = s.charge 8 := by
  have hback : (inc16Op r s).getR16 r - 1 = s.getR16 r := by
    rw [inc16Op, State.charge_getR16, State.setR16_getR16_same, BitVec.add_sub_cancel]
  rw [dec16Op, hback, inc16Op, State.charge_setR16, State.setR16_setR16_same, State.setR16_getR16_self]
  rfl

theorem inc16Op_f (r : R16) (s : State) : (inc16Op r s).f = s.f := s.setR16_f r _

/-! ## The control state (R456 d) -/

theorem addHlOp_control (r : R16) (s : State) : (addHlOp r s).control = s.control := rfl

theorem addSpOp_control (e : Byte) (s : State) :
    (addSpOp e s).control = { s.control with sp := (addSpOp e s).sp } := rfl

theorem ldHlSpOp_control (e : Byte) (s : State) : (ldHlSpOp e s).control = s.control := rfl

end Sys2Proof.Machine

/-! ## The obligations on 16-bit arithmetic -/

namespace Sys2Proof.Proofs
open Sys2Proof.Machine

/-- Settles O20: the pair is written through `setR16`, which keeps F; the value plus or minus one is the exact integer
reduced modulo 2^16. -/
theorem incAndDec16ChangeByOne : Obligations.IncAndDec16ChangeByOne := by
  intro r s v
  refine ⟨exec_inc16 r s, ?_, s.setR16_f r _, encode_inc16_code r, encode_dec16_code r⟩
  rw [exec_dec16, dec16Op, word_sub_one_eq_ofInt]
  rfl

/-- Settles O21: HL takes the two bytes of the exact sum, and the flags are those of `add16`. -/
theorem addHlGivesTheSum : Obligations.AddHlGivesTheSum := by
  intro r s t
  refine ⟨?_, encode_addHL_code r⟩
  rw [exec_addHL, addHlOp_eq rfl, hiByte_ofNat, loByte_ofNat]

/-- Settles O22: SP or HL takes the exact signed sum of `spe8`, and the flags are its unsigned low-byte carries. -/
theorem spPlusDisplacement : Obligations.SpPlusDisplacement := by
  intro e s res f
  have hspe8 := spe8_eq s.sp e
  refine ⟨?_, ?_, rfl, rfl, hspe8⟩
  · rw [exec_addSp, addSpOp_eq hspe8]
  · rw [exec_ldHlSp, ldHlSpOp_eq hspe8, hiByte_ofInt, loByte_ofInt]

/-- Settles O23: DEC rr undoes INC rr and neither writes F, ADD HL,rr passes Z through, and none writes the error record or
the run state. -/
theorem alu16Laws : Obligations.Alu16Laws := by
  intro s r e
  have hundo : exec (Instr.dec16 r) (inc16Op r s) = .next (s.charge 8) := by rw [exec_dec16, dec16Op_inc16Op]
  have hhl := addHlOp_control r s
  have hsp := addSpOp_control e s
  have hld := ldHlSpOp_control e s
  exact ⟨⟨_, _, exec_inc16 r s, hundo, s.charge_getR16 8 r, inc16Op_f r s, rfl, rfl⟩,
    ⟨_, exec_addHL r s, (addHlOp_flags r s).1, congrArg Control.run hhl, congrArg Control.err hhl⟩,
    ⟨_, exec_addSp e s, congrArg Control.run hsp, congrArg Control.err hsp⟩,
    ⟨_, exec_ldHlSp e s, congrArg Control.run hld, congrArg Control.err hld⟩⟩

end Sys2Proof.Proofs

/-! PROOFS. Rotates, shifts and bit operations (spec/42_rotate_shift_bit.md). Every rotate and shift is RL or RR with the
bit it shifts in, so the arithmetic is done for those two; the next state of each shared operation is said once, for every
operation, bit and operand. -/

namespace Sys2Proof

/-! ## The opcodes by operand code (R309, R310) -/

theorem encode_rot_code (y : Fin 8) (o : Opnd8) :
    (Instr.rot (.ofCode y) o).encode = [0xCB, BitVec.ofNat 8 (0x00 + 8 * y.val + o.code)] := by
  obtain ⟨z, rfl⟩ := o.exists_ofCode
  rw [Opnd8.code_ofCode]
  exact encode_rot y z

theorem encode_bit_code (b : Fin 8) (o : Opnd8) :
    (Instr.bit b o).encode = [0xCB, BitVec.ofNat 8 (0x40 + 8 * b.val + o.code)] := by
  obtain ⟨z, rfl⟩ := o.exists_ofCode
  rw [Opnd8.code_ofCode]
  exact encode_bit b z

theorem encode_res_code (b : Fin 8) (o : Opnd8) :
    (Instr.res b o).encode = [0xCB, BitVec.ofNat 8 (0x80 + 8 * b.val + o.code)] := by
  obtain ⟨z, rfl⟩ := o.exists_ofCode
  rw [Opnd8.code_ofCode]
  exact encode_res b z

theorem encode_set_code (b : Fin 8) (o : Opnd8) :
    (Instr.set b o).encode = [0xCB, BitVec.ofNat 8 (0xC0 + 8 * b.val + o.code)] := by
  obtain ⟨z, rfl⟩ := o.exists_ofCode
  rw [Opnd8.code_ofCode]
  exact encode_set b z

end Sys2Proof

namespace Sys2Proof.Machine

/-! ## Bits in exact arithmetic -/

/-- CF as the number shifted in (R502, R509). -/
theorem State.cf_toNat (s : State) : s.cf.toNat = if s.cf then 1 else 0 := by
  cases s.cf <;> rfl

theorem byte_getLsbD_eq (v : Byte) (j : Nat) : v.getLsbD j = decide (v.toNat / 2 ^ j % 2 = 1) :=
  Nat.testBit_eq_decide_div_mod_eq

theorem byte_not_getLsbD_eq (v : Byte) (j : Nat) : (!v.getLsbD j) = decide (v.toNat / 2 ^ j % 2 = 0) := by
  rw [byte_getLsbD_eq, ← decide_not, decide_eq_decide, Nat.mod_two_not_eq_one]

/-- Bit 7 of a byte, which RLC, RL and SLA move to C (R505, R509, R513). -/
theorem byte_bit7 (v : Byte) : v.getLsbD 7 = decide (v.toNat ≥ 128) := by
  rw [byte_getLsbD_eq, decide_eq_decide]
  omega

/-- Bit 0 of a byte, which RRC, RR, SRA and SRL move to C (R507, R511, R515, R519). -/
theorem byte_bit0 (v : Byte) : v.getLsbD 0 = decide (v.toNat % 2 = 1) := by
  rw [byte_getLsbD_eq, pow_zero, Nat.div_one]

theorem byte_bit7_toNat (v : Byte) : (v.getLsbD 7).toNat = v.toNat / 128 := by
  have hbit : (v.getLsbD 7).toNat = v.toNat / 2 ^ 7 % 2 := Nat.toNat_testBit v.toNat 7
  omega

theorem byte_bit0_toNat (v : Byte) : (v.getLsbD 0).toNat = v.toNat % 2 := by
  have hbit : (v.getLsbD 0).toNat = v.toNat / 2 ^ 0 % 2 := Nat.toNat_testBit v.toNat 0
  omega

/-- `1 << b` has the bit `b` alone (R523, R525). -/
theorem bitMask_getLsbD (b : Fin 8) (j : Nat) : (bitMask b).getLsbD j = decide (j = b.val) := by
  rw [bitMask, ← BitVec.twoPow_eq, BitVec.getLsbD_twoPow, decide_eq_true b.isLt, Bool.true_and]
  exact decide_eq_decide.2 eq_comm

theorem and_not_bitMask_getLsbD (v : Byte) (b : Fin 8) {j : Nat} (hj : j < 8) :
    (v &&& ~~~(bitMask b)).getLsbD j = if j = b.val then false else v.getLsbD j := by
  rw [BitVec.getLsbD_and, BitVec.getLsbD_not, bitMask_getLsbD]
  split <;> simp [*]

theorem or_bitMask_getLsbD (v : Byte) (b : Fin 8) (j : Nat) :
    (v ||| bitMask b).getLsbD j = if j = b.val then true else v.getLsbD j := by
  rw [BitVec.getLsbD_or, bitMask_getLsbD]
  split <;> simp [*]

/-! ## RL and RR in exact arithmetic -/

/-- A byte moved left by one, with a bit shifted in at bit 0 (R509). -/
theorem shiftLeft_or_bit (v : Byte) (b : Bool) :
    v <<< 1 ||| (if b then 0x01 else 0) = BitVec.ofNat 8 (2 * v.toNat + b.toNat) := by
  revert v b; decide

/-- A byte moved right by one, with a bit shifted in at bit 7 (R511). -/
theorem shiftRight_or_bit (v : Byte) (b : Bool) :
    v >>> 1 ||| (if b then 0x80 else 0) = BitVec.ofNat 8 (v.toNat / 2 + 128 * b.toNat) := by
  revert v b; decide

theorem rotate_rl (v : Byte) (cf : Bool) :
    rotate .rl v cf = (BitVec.ofNat 8 (2 * v.toNat + cf.toNat), decide (v.toNat ≥ 128)) := by
  rw [rotate, shiftLeft_or_bit, byte_bit7]

theorem rotate_rr (v : Byte) (cf : Bool) :
    rotate .rr v cf = (BitVec.ofNat 8 (v.toNat / 2 + 128 * cf.toNat), decide (v.toNat % 2 = 1)) := by
  rw [rotate, shiftRight_or_bit, byte_bit0]

/-! ## The other rotates and shifts -/

/-- RLC is RL with bit 7 as the carry (R505). -/
theorem rotate_rlc_eq_rl (v : Byte) (cf : Bool) : rotate .rlc v cf = rotate .rl v (v.getLsbD 7) := rfl

/-- RRC is RR with bit 0 as the carry (R507). -/
theorem rotate_rrc_eq_rr (v : Byte) (cf : Bool) : rotate .rrc v cf = rotate .rr v (v.getLsbD 0) := rfl

/-- SLA is RL with no carry (R513). -/
theorem rotate_sla_eq_rl (v : Byte) (cf : Bool) : rotate .sla v cf = rotate .rl v false :=
  congrArg (·, v.getLsbD 7) BitVec.or_zero.symm

/-- SRL is RR with no carry (R519). -/
theorem rotate_srl_eq_rr (v : Byte) (cf : Bool) : rotate .srl v cf = rotate .rr v false :=
  congrArg (·, v.getLsbD 0) BitVec.or_zero.symm

/-- SRA is RR with the sign bit as the carry (R515). -/
theorem rotate_sra_eq_rr (v : Byte) (cf : Bool) : rotate .sra v cf = rotate .rr v (v.getLsbD 7) := by
  have hsign : v &&& 0x80 = if v.getLsbD 7 then 0x80 else 0 := BitVec.and_twoPow v 7
  simp only [rotate, hsign]

theorem rotate_rlc (v : Byte) (cf : Bool) :
    rotate .rlc v cf = (BitVec.ofNat 8 (2 * v.toNat + v.toNat / 128), decide (v.toNat ≥ 128)) := by
  rw [rotate_rlc_eq_rl, rotate_rl, byte_bit7_toNat]

theorem rotate_rrc (v : Byte) (cf : Bool) :
    rotate .rrc v cf = (BitVec.ofNat 8 (v.toNat / 2 + 128 * (v.toNat % 2)), decide (v.toNat % 2 = 1)) := by
  rw [rotate_rrc_eq_rr, rotate_rr, byte_bit0_toNat]

theorem rotate_sla (v : Byte) (cf : Bool) :
    rotate .sla v cf = (BitVec.ofNat 8 (2 * v.toNat), decide (v.toNat ≥ 128)) := by
  rw [rotate_sla_eq_rl, rotate_rl, Bool.toNat_false, Nat.add_zero]

theorem rotate_sra (v : Byte) (cf : Bool) :
    rotate .sra v cf = (BitVec.ofNat 8 (v.toNat / 2 + 128 * (v.toNat / 128)), decide (v.toNat % 2 = 1)) := by
  rw [rotate_sra_eq_rr, rotate_rr, byte_bit7_toNat]

theorem rotate_srl (v : Byte) (cf : Bool) :
    rotate .srl v cf = (BitVec.ofNat 8 (v.toNat / 2), decide (v.toNat % 2 = 1)) := by
  rw [rotate_srl_eq_rr, rotate_rr, Bool.toNat_false, Nat.mul_zero, Nat.add_zero]

theorem rotate_swap (v : Byte) (cf : Bool) :
    rotate .swap v cf = (BitVec.ofNat 8 (v.toNat % 16 * 16 + v.toNat / 16), false) := by
  have hres : (v &&& 0x0F) <<< 4 ||| v >>> 4 = BitVec.ofNat 8 (v.toNat % 16 * 16 + v.toNat / 16) := by
    revert v; decide
  rw [rotate, hres]

/-! ## Rotates that undo each other (R527) -/

/-- RR undoes RL: it shifts in the bit RL moved to C, and moves to C the bit RL shifted in. -/
theorem rotate_rr_rl (v : Byte) (cf : Bool) :
    rotate .rr (rotate .rl v cf).1 (rotate .rl v cf).2 = (v, cf) := by
  have hcf := cf.toNat_lt
  have hcin : (decide (v.toNat ≥ 128)).toNat = v.toNat / 128 := by rw [← byte_bit7, byte_bit7_toNat]
  rw [rotate_rl, rotate_rr, hcin, BitVec.toNat_ofNat, Prod.mk.injEq]
  constructor
  · apply BitVec.eq_of_toNat_eq
    rw [BitVec.toNat_ofNat]
    omega
  · have hout : (2 * v.toNat + cf.toNat) % 2 ^ 8 % 2 = cf.toNat := by omega
    rw [hout]
    cases cf <;> rfl

/-- RL shifts its carry in at bit 0. -/
theorem rotate_rl_bit0 (v : Byte) (cf : Bool) : (rotate .rl v cf).1.getLsbD 0 = cf :=
  congrArg Prod.snd (rotate_rr_rl v cf)

/-- RRC undoes RLC: both shift in the bit RLC moved out. -/
theorem rotate_rrc_rlc (v : Byte) (cf cf' : Bool) : (rotate .rrc (rotate .rlc v cf).1 cf').1 = v := by
  rw [rotate_rrc_eq_rr, rotate_rlc_eq_rl, rotate_rl_bit0]
  exact congrArg Prod.fst (rotate_rr_rl v (v.getLsbD 7))

/-- SWAP undoes itself. -/
theorem rotate_swap_swap (v : Byte) (cf cf' : Bool) : (rotate .swap (rotate .swap v cf).1 cf').1 = v := by
  have hlow : (v.toNat % 16 * 16 + v.toNat / 16) % 2 ^ 8 % 16 = v.toNat / 16 := by omega
  have hhigh : (v.toNat % 16 * 16 + v.toNat / 16) % 2 ^ 8 / 16 = v.toNat % 16 := by omega
  rw [rotate_swap, rotate_swap, BitVec.toNat_ofNat, hlow, hhigh, Nat.div_add_mod', BitVec.ofNat_toNat,
    BitVec.setWidth_eq]

/-! ## The next state of the shared operations -/

/-- The cost of an extended instruction, under both values of CB_TIMING (R322). -/
theorem State.chargeExtended_eq (s : State) (entry : Nat) :
    s.chargeExtended entry = { s with result := some (.cycles (s.extendedCost entry)) } := by
  unfold State.chargeExtended State.extendedCost
  cases s.params.cbTiming <;> rfl

theorem rmwCost_eq (o : Opnd8) : rmwCost o = byOperand o 8 16 := by
  cases o <;> rfl

theorem bitCost_eq (o : Opnd8) : bitCost o = byOperand o 8 12 := by
  cases o <;> rfl

/-- Writing an operand keeps CB_TIMING, so the cost of the instruction that does it is the same before and after. -/
@[simp] theorem State.putOpnd_extendedCost (s : State) (o : Opnd8) (v : Byte) (entry : Nat) :
    (s.putOpnd o v).extendedCost entry = s.extendedCost entry := by
  simp only [State.extendedCost, State.putOpnd_params]

/-- A rotate of A, from its result and carry: A takes the result, Z, N and H are cleared, and nothing else changes (R500
to R503). -/
theorem rotAOp_eq {op : RotOp} {s : State} {res : Byte} {c : Bool} (hout : rotate op s.a s.cf = (res, c)) :
    rotAOp op s = { s with a := res, f := flagByte false false false c, result := some (.cycles 4) } := by
  rw [rotAOp, hout]
  simp only [State.flags_eq]
  rfl

/-- Every row of the rotate and shift column, from its result and carry: the operand takes the result, F the four flags,
and nothing else changes (R505 to R520). -/
theorem exec_rot_puts {op : RotOp} {o : Opnd8} {s : State} {res : Nat} {c : Bool}
    (hout : rotate op (s.getOpnd o) s.cf = (BitVec.ofNat 8 res, c)) :
    ∃ t, Puts s t o (BitVec.ofNat 8 res) ∧ exec (Instr.rot op o) s = .next { t with
      f := flagByte (decide (res % 256 = 0)) false false c
      result := some (.cycles (s.extendedCost (byOperand o 8 16))) } := by
  refine ⟨_, s.putOpnd_puts o _, ?_⟩
  rw [exec_rot, rotOp, hout]
  simp only [State.flags_eq, State.chargeExtended_eq, rmwCost_eq, byte_ofNat_eq_zero_iff, Option.getD]
  rw [← s.putOpnd_extendedCost o (BitVec.ofNat 8 res)]
  rfl

/-- BIT of every operand: Z is the inverse of the bit, and nothing else but N, H and the cost changes (R521, R522). -/
theorem bitOp_eq (b : Fin 8) (o : Opnd8) (s : State) :
    bitOp b o s = { s with
      f := flagByte (!(s.getOpnd o).getLsbD b.val) false true s.cf
      result := some (.cycles (s.extendedCost (byOperand o 8 12))) } := by
  rw [bitOp, State.chargeExtended_eq, bitCost_eq, State.flags_eq]
  rfl

/-- RES of every operand: its byte and the cost; no flag (R523, R524). -/
theorem resOp_eq (b : Fin 8) (o : Opnd8) (s : State) :
    resOp b o s = { s.putOpnd o (s.getOpnd o &&& ~~~(bitMask b)) with
      result := some (.cycles (s.extendedCost (byOperand o 8 16))) } := by
  rw [resOp, State.chargeExtended_eq, rmwCost_eq, State.putOpnd_extendedCost]

/-- SET of every operand: its byte and the cost; no flag (R525, R526). -/
theorem setOp_eq (b : Fin 8) (o : Opnd8) (s : State) :
    setOp b o s = { s.putOpnd o (s.getOpnd o ||| bitMask b) with
      result := some (.cycles (s.extendedCost (byOperand o 8 16))) } := by
  rw [setOp, State.chargeExtended_eq, rmwCost_eq, State.putOpnd_extendedCost]

/-! ## An operand and the flags after an operation on it -/

@[simp] theorem State.chargeExtended_getOpnd (s : State) (entry : Nat) (o : Opnd8) :
    (s.chargeExtended entry).getOpnd o = s.getOpnd o := by
  unfold State.chargeExtended
  split <;> exact s.charge_getOpnd _ o

theorem rotOp_getOpnd {s : State} (hwf : s.mem.wf = true) (op : RotOp) (o : Opnd8) :
    (rotOp op o s).getOpnd o = (rotate op (s.getOpnd o) s.cf).1 := by
  simp only [rotOp, State.chargeExtended_getOpnd, State.flags_getOpnd]
  exact State.putOpnd_getOpnd_same hwf o _

/-- A rotate or shift leaves its carry in C. -/
theorem rotOp_cf (op : RotOp) (o : Opnd8) (s : State) : (rotOp op o s).cf = (rotate op (s.getOpnd o) s.cf).2 := by
  simp [rotOp]

theorem resOp_getOpnd {s : State} (hwf : s.mem.wf = true) (b : Fin 8) (o : Opnd8) :
    (resOp b o s).getOpnd o = s.getOpnd o &&& ~~~(bitMask b) :=
  (State.chargeExtended_getOpnd ..).trans (State.putOpnd_getOpnd_same hwf o _)

theorem setOp_getOpnd {s : State} (hwf : s.mem.wf = true) (b : Fin 8) (o : Opnd8) :
    (setOp b o s).getOpnd o = s.getOpnd o ||| bitMask b :=
  (State.chargeExtended_getOpnd ..).trans (State.putOpnd_getOpnd_same hwf o _)

/-- BIT sets Z to the inverse of the bit it tests (R521). -/
theorem bitOp_zf (b : Fin 8) (o : Opnd8) (s : State) : (bitOp b o s).zf = !(s.getOpnd o).getLsbD b.val := by
  simp [bitOp]

/-! ## Two operations in a row (R527) -/

section
variable {s : State} (hwf : s.mem.wf = true) (o : Opnd8)
include hwf

/-- The operand after two rotates or shifts. -/
theorem rotOp_rotOp_getOpnd (op op' : RotOp) :
    (rotOp op' o (rotOp op o s)).getOpnd o =
      (rotate op' (rotate op (s.getOpnd o) s.cf).1 (rotate op (s.getOpnd o) s.cf).2).1 := by
  have hwf' : (rotOp op o s).mem.wf = true := exec_keeps_wf hwf (exec_rot op o s)
  rw [rotOp_getOpnd hwf', rotOp_getOpnd hwf, rotOp_cf]

/-- C after two rotates or shifts. -/
theorem rotOp_rotOp_cf (op op' : RotOp) :
    (rotOp op' o (rotOp op o s)).cf =
      (rotate op' (rotate op (s.getOpnd o) s.cf).1 (rotate op (s.getOpnd o) s.cf).2).2 := by
  rw [rotOp_cf, rotOp_getOpnd hwf, rotOp_cf]

theorem bitOp_resOp_zf (b : Fin 8) : (bitOp b o (resOp b o s)).zf = true := by
  rw [bitOp_zf, resOp_getOpnd hwf, and_not_bitMask_getLsbD _ b b.isLt, if_pos rfl, Bool.not_false]

theorem bitOp_setOp_zf (b : Fin 8) : (bitOp b o (setOp b o s)).zf = false := by
  rw [bitOp_zf, setOp_getOpnd hwf, or_bitMask_getLsbD, if_pos rfl, Bool.not_true]

end

end Sys2Proof.Machine

/-! ## The obligations on rotates, shifts and bits -/

namespace Sys2Proof.Proofs
open Sys2Proof.Machine

/-- Settles O24: A takes the result of `rotate` in exact arithmetic, and Z, N and H are cleared. -/
theorem rotatesOfA : Obligations.RotatesOfA := by
  intro s a cin gives
  have hcin : cin = s.cf.toNat := s.cf_toNat.symm
  rw [hcin]
  exact ⟨congrArg Host.Outcome.next (rotAOp_eq (rotate_rlc s.a s.cf)),
    congrArg Host.Outcome.next (rotAOp_eq (rotate_rrc s.a s.cf)),
    congrArg Host.Outcome.next (rotAOp_eq (rotate_rl s.a s.cf)),
    congrArg Host.Outcome.next (rotAOp_eq (rotate_rr s.a s.cf)), rfl⟩

/-- Settles O25: the operand takes the result of `rotate` in exact arithmetic, for every operand. -/
theorem extendedRotates : Obligations.ExtendedRotates := by
  intro o s v cin gives
  have hcin : cin = s.cf.toNat := s.cf_toNat.symm
  rw [hcin]
  exact ⟨⟨exec_rot_puts (rotate_rlc ..), encode_rot_code 0 o⟩, ⟨exec_rot_puts (rotate_rrc ..), encode_rot_code 1 o⟩,
    ⟨exec_rot_puts (rotate_rl ..), encode_rot_code 2 o⟩, ⟨exec_rot_puts (rotate_rr ..), encode_rot_code 3 o⟩⟩

/-- Settles O26: the operand takes the result of `rotate` in exact arithmetic, for every operand. -/
theorem extendedShiftsAndSwap : Obligations.ExtendedShiftsAndSwap := by
  intro o s v gives
  exact ⟨⟨exec_rot_puts (rotate_sla ..), encode_rot_code 4 o⟩, ⟨exec_rot_puts (rotate_sra ..), encode_rot_code 5 o⟩,
    ⟨exec_rot_puts (rotate_swap ..), encode_rot_code 6 o⟩, ⟨exec_rot_puts (rotate_srl ..), encode_rot_code 7 o⟩⟩

/-- Settles O27: a bit of a byte is the parity of the byte divided by its power of two. -/
theorem bitTestsOneBit : Obligations.BitTestsOneBit := by
  intro b o s
  refine ⟨?_, encode_bit_code b o⟩
  rw [exec_bit, bitOp_eq, byte_not_getLsbD_eq]

/-- Settles O28: the operand is written through `putOpnd`, with the mask of one bit cleared or set. -/
theorem resAndSetChangeOneBit : Obligations.ResAndSetChangeOneBit := by
  intro b o s gives
  refine ⟨⟨_, _, fun j hj => and_not_bitMask_getLsbD _ b hj, s.putOpnd_puts o _, ?_⟩,
    ⟨_, _, fun j _ => or_bitMask_getLsbD _ b j, s.putOpnd_puts o _, ?_⟩, encode_res_code b o, encode_set_code b o⟩
  · rw [exec_res, resOp_eq]
  · rw [exec_set, setOp_eq]

/-- Settles O29: each rotate is undone by the one that shifts its carry back in, BIT reads the bit RES or SET wrote, and
each operation has an effect, which keeps the control state. -/
theorem rotateAndBitLaws : Obligations.RotateAndBitLaws := by
  refine ⟨fun s o hwf => ⟨?_, ?_, ?_, fun b => ⟨?_, ?_⟩⟩, fun s op b o i hi => ?_⟩
  · exact ⟨_, _, exec_rot .., exec_rot .., (rotOp_rotOp_getOpnd hwf o ..).trans (rotate_rrc_rlc ..)⟩
  · have hundo := rotate_rr_rl (s.getOpnd o) s.cf
    exact ⟨_, _, exec_rot .., exec_rot .., (rotOp_rotOp_getOpnd hwf o ..).trans (congrArg Prod.fst hundo),
      (rotOp_rotOp_cf hwf o ..).trans (congrArg Prod.snd hundo)⟩
  · exact ⟨_, _, exec_rot .., exec_rot .., (rotOp_rotOp_getOpnd hwf o ..).trans (rotate_swap_swap ..)⟩
  · exact ⟨_, _, exec_res .., exec_bit .., bitOp_resOp_zf hwf o b⟩
  · exact ⟨_, _, exec_set .., exec_bit .., bitOp_setOp_zf hwf o b⟩
  · obtain ⟨t, h, heffect⟩ : ∃ t, exec i s = .next t ∧ i.Effect s t := by
      simp only [List.mem_cons, List.not_mem_nil, or_false] at hi
      rcases hi with rfl | rfl | rfl | rfl | rfl | rfl | rfl | rfl
      · exact ⟨_, rfl, rotAOp_effect .rlca _⟩
      · exact ⟨_, rfl, rotAOp_effect .rrca _⟩
      · exact ⟨_, rfl, rotAOp_effect .rla _⟩
      · exact ⟨_, rfl, rotAOp_effect .rra _⟩
      · exact ⟨_, exec_rot .., rotOp_effect (.rot op o) ..⟩
      · exact ⟨_, exec_bit .., bitOp_effect (.bit b o) ..⟩
      · exact ⟨_, exec_res .., resOp_effect ..⟩
      · exact ⟨_, exec_set .., setOp_effect ..⟩
    exact ⟨t, h, congrArg Control.run heffect.control, congrArg Control.err heffect.control⟩

end Sys2Proof.Proofs

/-! PROOFS. Decimal adjust and flag operations (spec/43_misc_alu.md). DAA is written as one exact correction per branch,
and its decimal meaning is proved on the result and the flags of the addition or subtraction before it. -/

namespace Sys2Proof.Machine

/-! ## DAA in exact arithmetic (R550) -/

/-- The addition branch: a correction of 0x60, which sets C, and one of 0x06. -/
theorem daa_add_eq (a : Byte) (h c : Bool) :
    daa a false h c = (BitVec.ofInt 8 ((a.toNat : Int) + (if c = true ∨ a.toNat > 0x99 then 0x60 else 0) +
      (if h = true ∨ a.toNat % 16 > 9 then 0x06 else 0)), c || decide (a.toNat > 0x99)) := by
  simp only [daa, Bool.false_eq_true, if_false, Bool.or_eq_true, decide_eq_true_eq]
  split <;> split <;> simp only [add_zero]

/-- The subtraction branch: the corrections are those C and H name, and C is kept. -/
theorem daa_sub_eq (a : Byte) (h c : Bool) :
    daa a true h c = (BitVec.ofInt 8 ((a.toNat : Int) - (if c = true then 0x60 else 0) -
      (if h = true then 0x06 else 0)), c) := by
  simp only [daa, if_true]
  split <;> split <;> simp only [sub_zero]

/-! ## The next state -/

/-- DAA, from its result and carry: A takes the result, Z says whether it is 0, N is kept, H is cleared, and nothing
else changes (R550). -/
theorem daaOp_eq {s : State} {res : Byte} {c : Bool} (hout : daa s.a s.nf s.hf s.cf = (res, c)) :
    daaOp s = { s with a := res, f := flagByte (decide (res = 0)) s.nf false c, result := some (.cycles 4) } := by
  rw [daaOp, hout]
  simp only [State.flags_eq]
  rfl

/-- CPL: the complement is the distance to 255 (R551). -/
theorem cplOp_eq (s : State) :
    cplOp s = { s with
      a := BitVec.ofNat 8 (255 - s.a.toNat), f := flagByte s.zf true true s.cf, result := some (.cycles 4) } := by
  have hnot : ~~~s.a = BitVec.ofNat 8 (255 - s.a.toNat) := by
    apply BitVec.eq_of_toNat_eq
    rw [BitVec.toNat_not, BitVec.toNat_ofNat]
    omega
  rw [cplOp, hnot, State.flags_eq]
  rfl

/-- SCF changes F and the cost only (R552). -/
theorem scfOp_eq (s : State) :
    scfOp s = { s with f := flagByte s.zf false false true, result := some (.cycles 4) } := by
  rw [scfOp, State.flags_eq]
  rfl

/-- CCF changes F and the cost only (R553). -/
theorem ccfOp_eq (s : State) :
    ccfOp s = { s with f := flagByte s.zf false false (!s.cf), result := some (.cycles 4) } := by
  rw [ccfOp, State.flags_eq]
  rfl

/-! ## DAA after an addition or a subtraction of decimal digits -/

/-- What DAA makes of the result and the flags an operation leaves: the new A and the new C. -/
def AluOut.adjusted (o : AluOut) : Byte × Bool := daa o.res o.n o.h o.c

/-- An operation other than CP and then DAA leave `adjusted` of the operation's output in A and in C. -/
theorem exec_alu_then_daa {op : AluOp} (hop : op ≠ .cp) {src : AluSrc} {s : State} {res : Byte} {c : Bool}
    (hout : (alu op s.a (s.getSrc src) s.cf).adjusted = (res, c)) :
    ∃ t u, exec (Instr.alu op src) s = .next t ∧ exec .daa t = .next u ∧ u.a = res ∧ u.cf = c := by
  refine ⟨_, _, exec_alu_eq hop rfl, congrArg Host.Outcome.next (daaOp_eq (res := res) (c := c) ?_), rfl, ?_⟩
  · rw [← hout, AluOut.adjusted]
    congr 1
    exacts [flagByte_n .., flagByte_h .., flagByte_c ..]
  · exact flagByte_c ..

theorem bcd_toNat {x : Nat} (hx : x < 100) : (bcd x).toNat = x / 10 * 16 + x % 10 := by
  rw [bcd, BitVec.toNat_ofNat]
  omega

section
variable {x y : Nat} (hx : x < 100) (hy : y < 100) (cin : Bool)
include hx hy

/-- The low correction is made exactly when the low digits carry, and the high one exactly when the decimal sum does. -/
theorem add8_bcd_adjusted :
    (add8 (bcd x) (bcd y) cin).adjusted =
      (bcd ((x + y + cin.toNat) % 100), decide (x + y + cin.toNat ≥ 100)) := by
  have hcin := cin.toNat_lt
  have hX := bcd_toNat hx
  have hY := bcd_toNat hy
  have hres := bcd_toNat (Nat.mod_lt (x + y + cin.toNat) (by decide : 100 > 0))
  rw [add8_eq, AluOut.adjusted, daa_add_eq]
  simp only [BitVec.toNat_ofNat, decide_eq_true_eq]
  generalize (bcd x).toNat = X, (bcd y).toNat = Y, cin.toNat = k at *
  have hcarry : X + Y + k > 0x99 ↔ x + y + k ≥ 100 := by omega
  have hhigh : X + Y + k > 0xFF ∨ (X + Y + k) % 2 ^ 8 > 0x99 ↔ x + y + k ≥ 100 := by rw [← hcarry]; omega
  have hlow : X % 16 + Y % 16 + k > 0xF ∨ (X + Y + k) % 2 ^ 8 % 16 > 9 ↔ x % 10 + y % 10 + k ≥ 10 := by omega
  rw [← Bool.decide_or]
  simp only [hhigh, hlow, Prod.mk.injEq, and_true]
  apply BitVec.eq_of_toNat_eq
  rw [hres, BitVec.toNat_ofInt]
  split <;> split <;> omega

/-- The low correction is made exactly when the low digits borrow, and the high one exactly when the decimal difference
does. -/
theorem sub8_bcd_adjusted :
    (sub8 (bcd x) (bcd y) cin).adjusted =
      (bcd ((100 + x - y - cin.toNat) % 100), decide (x < y + cin.toNat)) := by
  have hcin := cin.toNat_lt
  have hX := bcd_toNat hx
  have hY := bcd_toNat hy
  have hres := bcd_toNat (Nat.mod_lt (100 + x - y - cin.toNat) (by decide : 100 > 0))
  rw [sub8_eq, AluOut.adjusted, daa_sub_eq]
  simp only [decide_eq_true_eq]
  generalize (bcd x).toNat = X, (bcd y).toNat = Y, cin.toNat = k at *
  have hhigh : (X : Int) - Y - k < 0 ↔ x < y + k := by omega
  have hlow : (X : Int) % 16 - (Y : Int) % 16 - k < 0 ↔ x % 10 < y % 10 + k := by omega
  simp only [hhigh, hlow, Prod.mk.injEq, and_true]
  apply BitVec.eq_of_toNat_eq
  rw [hres, BitVec.toNat_ofInt, BitVec.toNat_ofInt]
  split <;> split <;> omega

end

end Sys2Proof.Machine

/-! ## The obligations on decimal adjust and flag operations -/

namespace Sys2Proof.Proofs
open Sys2Proof.Machine

/-- Settles O30: the exact result of the branch N selects is reduced to a byte, and Z is read off it. -/
theorem daaAdjusts : Obligations.DaaAdjusts := by
  intro s a high low res
  refine ⟨?_, rfl⟩
  have hout : daa s.a s.nf s.hf s.cf =
      (BitVec.ofInt 8 res, s.cf || (!s.nf && decide (s.a.toNat > 0x99))) := by
    simp only [res, high, low, a]
    cases s.nf with
    | false => simpa using daa_add_eq s.a s.hf s.cf
    | true => simpa using daa_sub_eq s.a s.hf s.cf
  have hnext : exec .daa s = .next (daaOp s) := rfl
  rw [hnext, daaOp_eq hout]
  simp only [byte_ofInt_eq_zero_iff]

/-- Settles O31: the output of each operation on two decimal numbers, adjusted, is the decimal result and its carry. -/
theorem daaGivesTheDecimalResult : Obligations.DaaGivesTheDecimalResult := by
  intro s src x y hx hy ha hsrc cin gives
  have hcin : cin = s.cf.toNat := s.cf_toNat.symm
  simp only [gives, hcin]
  refine ⟨exec_alu_then_daa (by decide) ?_, exec_alu_then_daa (by decide) ?_, exec_alu_then_daa (by decide) ?_,
    exec_alu_then_daa (by decide) ?_⟩ <;> rw [ha, hsrc]
  · exact add8_bcd_adjusted hx hy false
  · exact add8_bcd_adjusted hx hy s.cf
  · exact sub8_bcd_adjusted hx hy false
  · exact sub8_bcd_adjusted hx hy s.cf

/-- Settles O32: the next state of each of the three is said once, with the flags it keeps. -/
theorem complementAndCarryFlag : Obligations.ComplementAndCarryFlag := fun s =>
  ⟨congrArg Host.Outcome.next (cplOp_eq s), congrArg Host.Outcome.next (scfOp_eq s),
    congrArg Host.Outcome.next (ccfOp_eq s), rfl⟩

end Sys2Proof.Proofs

/-! PROOFS. Loads and stores (spec/44_loads.md). The next state of each shared operation is said once, for every operand,
pair and address; a store is the rule for a read after a write. -/

namespace Sys2Proof

/-! ## The opcodes by operand code (R308, R310, R311) -/

theorem encode_ld_code (y z : Opnd8) : (Instr.ld y z).encode = [BitVec.ofNat 8 (0x40 + 8 * y.code + z.code)] := by
  obtain ⟨y, rfl⟩ := y.exists_ofCode
  obtain ⟨z, rfl⟩ := z.exists_ofCode
  rw [Opnd8.code_ofCode, Opnd8.code_ofCode]
  exact encode_ld y z

theorem encode_ldN8_code (y : Opnd8) (n : Byte) :
    (Instr.ldN8 y n).encode = [BitVec.ofNat 8 (0x06 + 8 * y.code), n] := by
  obtain ⟨y, rfl⟩ := y.exists_ofCode
  rw [Opnd8.code_ofCode]
  exact encode_ldN8 y n

theorem encode_ldN16_code (r : R16) (n : Word) :
    (Instr.ldN16 r n).encode = [BitVec.ofNat 8 (0x01 + 16 * r.code), loByte n, hiByte n] := by
  cases r <;> rfl

end Sys2Proof

namespace Sys2Proof.Machine

/-! ## What a store leaves in memory -/

theorem State.memWrite_storesByte (s : State) (a : Word) (v : Byte) : StoresByte s (s.memWrite a v) a v :=
  fun hwf x => State.memRead_memWrite hwf a x v

theorem State.memWrite16_storesWord (s : State) (a v : Word) : StoresWord s (s.memWrite16 a v) a v := by
  intro hwf x
  rw [State.memRead_memWrite16 hwf, loByte_eq_ofNat, hiByte_eq_ofNat]

/-! ## HL after an access through (HL+) or (HL-) (R313, R613) -/

/-- (HL+) leaves the bytes of HL + 1 in H and L; at HL = 0xFFFF the carry out of H is dropped. -/
theorem State.memAddrAfter_hlInc (s : State) :
    s.memAddrAfter .hlInc = { s with
      h := BitVec.ofNat 8 ((s.hl.toNat + 1) / 256), l := BitVec.ofNat 8 (s.hl.toNat + 1) } := by
  have hnext : s.hl + 1 = BitVec.ofNat 16 (s.hl.toNat + 1) := by bv_omega
  rw [State.memAddrAfter, State.setHl, hnext, hiByte_ofNat, loByte_ofNat]

/-- (HL-) leaves the bytes of HL - 1, which is HL + 65535 modulo 2^16, in H and L. -/
theorem State.memAddrAfter_hlDec (s : State) :
    s.memAddrAfter .hlDec = { s with
      h := BitVec.ofNat 8 ((s.hl.toNat + 65535) / 256), l := BitVec.ofNat 8 (s.hl.toNat + 65535) } := by
  have hprev : s.hl - 1 = BitVec.ofNat 16 (s.hl.toNat + 65535) := by bv_omega
  rw [State.memAddrAfter, State.setHl, hprev, hiByte_ofNat, loByte_ofNat]

/-! ## The next state of the shared operations -/

theorem ldCost_eq (y z : Opnd8) : ldCost y z = byOperand y (byOperand z 4 8) 8 := by
  cases y <;> cases z <;> rfl

theorem ldN8Cost_eq (y : Opnd8) : ldN8Cost y = byOperand y 8 12 := by
  cases y <;> rfl

/-- A through every pair: A takes the byte at the pair's value before HL moves, and nothing but HL changes beside it. -/
theorem exec_ldAMem_eq (m : R16Mem) (s : State) :
    exec (Instr.ldAMem m) s = .next { s.memAddrAfter m with
      a := s.memRead (s.memAddr m), result := some (.cycles 8) } := by
  cases m <;> rfl

/-- A to every pair: A is stored at the pair's value before HL moves, and nothing but HL changes beside memory. -/
theorem exec_ldMemA_stores (m : R16Mem) (s : State) :
    ∃ t, StoresByte s t (s.memAddr m) s.a ∧ exec (Instr.ldMemA m) s = .next { s.memAddrAfter m with
      mem := t.mem, result := some (.cycles 8) } := by
  refine ⟨_, s.memWrite_storesByte (s.memAddr m) s.a, ?_⟩
  cases m <;> rfl

section
variable {i : Instr} {s : State} {addr : Word} {cost : Nat}

/-- A stored at any address, at any cost: nothing but memory changes (R614, R616, R619). -/
theorem exec_ldATo_stores (hi : exec i s = .next (ldAToOp addr cost s)) :
    ∃ t, StoresByte s t addr s.a ∧ exec i s = .next { s with mem := t.mem, result := some (.cycles cost) } :=
  ⟨_, s.memWrite_storesByte addr s.a, hi⟩

/-- A loaded from any address, at any cost: nothing but A changes (R615, R617, R618). -/
theorem exec_ldAFrom_eq (hi : exec i s = .next (ldAFromOp addr cost s)) :
    exec i s = .next { s with a := s.memRead addr, result := some (.cycles cost) } := hi

end

/-- SP stored at any address: nothing but memory changes (R621). -/
theorem exec_ldMemSp_stores (a : Word) (s : State) :
    ∃ t, StoresWord s t a s.sp ∧
      exec (.ld_ma16_SP a) s = .next { s with mem := t.mem, result := some (.cycles 20) } :=
  ⟨_, s.memWrite16_storesWord a s.sp, rfl⟩

end Sys2Proof.Machine

/-! ## The obligations on loads and stores -/

namespace Sys2Proof.Proofs
open Sys2Proof.Machine

/-- Settles O33: the destination is written through `putOpnd`, with the byte the source has before the write. -/
theorem loadsMoveAByte : Obligations.LoadsMoveAByte := by
  refine fun s => ⟨fun y z hyz => ⟨⟨_, s.putOpnd_puts y (s.getOpnd z), ?_⟩, encode_ld_code y z⟩,
    fun y n => ⟨⟨_, s.putOpnd_puts y n, ?_⟩, encode_ldN8_code y n⟩⟩
  · rw [exec_ld y z hyz, ldOp, ldCost_eq, State.charge]
  · rw [exec_ldN8, ldN8Op, ldN8Cost_eq, State.charge]

/-- Settles O34: A is loaded through the pair, and HL moves by one as (HL+) and (HL-) say. -/
theorem loadAThroughAPair : Obligations.LoadAThroughAPair := by
  intro s
  have hinc := exec_ldAMem_eq .hlInc s
  have hdec := exec_ldAMem_eq .hlDec s
  rw [State.memAddrAfter_hlInc] at hinc
  rw [State.memAddrAfter_hlDec] at hdec
  exact ⟨exec_ldAMem_eq .bc s, exec_ldAMem_eq .de s, hinc, hdec, rfl⟩

/-- Settles O35: A is stored through the pair, and HL moves by one as (HL+) and (HL-) say. -/
theorem storeAThroughAPair : Obligations.StoreAThroughAPair := by
  intro s
  have hinc := exec_ldMemA_stores .hlInc s
  have hdec := exec_ldMemA_stores .hlDec s
  rw [State.memAddrAfter_hlInc] at hinc
  rw [State.memAddrAfter_hlDec] at hdec
  exact ⟨exec_ldMemA_stores .bc s, exec_ldMemA_stores .de s, hinc, hdec, rfl⟩

/-- Settles O36: each is a load or store of A at one address, which for the high page is `highPage` of the byte. -/
theorem highPageAndAbsoluteLoads : Obligations.HighPageAndAbsoluteLoads := by
  intro s n w page loads stores
  have hpage (x : Byte) : page x = highPage x := (highPage_eq_ofNat x).symm
  rw [hpage, hpage, ← loByte_eq_ofNat, ← hiByte_eq_ofNat]
  exact ⟨exec_ldATo_stores rfl, exec_ldAFrom_eq rfl, exec_ldATo_stores rfl, exec_ldAFrom_eq rfl, exec_ldAFrom_eq rfl,
    exec_ldATo_stores rfl, rfl, rfl⟩

/-- Settles O37: a pair is written through `setR16` and reads the value back; SP is stored by the rule for a read after a
word write. -/
theorem wordLoads : Obligations.WordLoads := by
  intro s r n lo hi
  have hlo : lo = loByte n := (loByte_eq_ofNat n).symm
  have hhi : hi = hiByte n := (hiByte_eq_ofNat n).symm
  rw [hlo, hhi]
  exact ⟨exec_ldN16 r n s, s.setR16_getR16_same r n, encode_ldN16_code r n,
    exec_ldMemSp_stores n s, rfl, rfl, rfl⟩

end Sys2Proof.Proofs

/-! PROOFS. Control transfer (spec/45_control_flow.md). A relative jump is an addition of the signed displacement, a call is
one push and one write of PC, and a return is one pop into PC; each is said once, for every instruction that does it. -/

namespace Sys2Proof

/-! ## The opcodes by condition code and restart field (R308, R312, R317) -/

theorem encode_jrCc_code (cc : Cond) (e : Byte) : (Instr.jrCc cc e).encode = [BitVec.ofNat 8 (0x20 + 8 * cc.code), e] := by
  cases cc <;> rfl

theorem encode_jpCc_code (cc : Cond) (a : Word) :
    (Instr.jpCc cc a).encode = [BitVec.ofNat 8 (0xC2 + 8 * cc.code), loByte a, hiByte a] := by
  cases cc <;> rfl

theorem encode_callCc_code (cc : Cond) (a : Word) :
    (Instr.callCc cc a).encode = [BitVec.ofNat 8 (0xC4 + 8 * cc.code), loByte a, hiByte a] := by
  cases cc <;> rfl

theorem encode_retCc_code (cc : Cond) : (Instr.retCc cc).encode = [BitVec.ofNat 8 (0xC0 + 8 * cc.code)] := by
  cases cc <;> rfl

theorem encode_rst_code (y : Fin 8) : (Instr.rst y).encode = [BitVec.ofNat 8 (0xC7 + 8 * y.val)] := by
  revert y; decide

end Sys2Proof

namespace Sys2Proof.Machine

/-! ## The relative jump (R320, R661) -/

/-- The jump lands at the exact sum of PC and the signed displacement, modulo 2^16, and nothing but PC changes. -/
theorem State.jumpRelative_eq (s : State) (d : Byte) :
    s.jumpRelative d = { s with pc := BitVec.ofInt 16 ((s.pc.toNat : Int) + d.toInt) } := by
  rw [State.jumpRelative, add_sext16_eq_ofInt, State.setPc]

/-- Sign extension turns the opposite of a displacement into its opposite; 0x80, which is -128, has none among the bytes. -/
theorem sext16_neg {d : Byte} (hd : d ≠ 0x80) : sext16 (-d) = -sext16 d := by
  have hopp : (-d).toInt = -d.toInt := BitVec.toInt_neg_of_ne_intMin hd
  rw [sext16_eq_signExtend, sext16_eq_signExtend, BitVec.signExtend, BitVec.signExtend, hopp, BitVec.ofInt_neg]

/-- The opposite displacement undoes a relative jump (R661). -/
theorem State.jumpRelative_jumpRelative_neg (s : State) {d : Byte} (hd : d ≠ 0x80) :
    (s.jumpRelative d).jumpRelative (-d) = s := by
  have hback : s.pc + sext16 d + sext16 (-d) = s.pc := by
    rw [sext16_neg hd, ← BitVec.sub_eq_add_neg, BitVec.add_sub_cancel]
  rw [State.jumpRelative, State.jumpRelative_pc, hback]
  rfl

/-- Two jumps by one displacement that meet start at one PC (R661). -/
theorem State.jumpRelative_pc_inj {s t : State} {d : Byte} (h : (s.jumpRelative d).pc = (t.jumpRelative d).pc) :
    s.pc = t.pc := by
  rw [State.jumpRelative_pc, State.jumpRelative_pc] at h
  exact (BitVec.add_left_inj _).mp h

theorem jrOp_pc (s : State) (d : Byte) : (jrOp d s).pc = s.pc + sext16 d := by
  rw [jrOp, State.charge_pc, State.jumpRelative_pc]

/-- A JR by the opposite displacement, fetched where a JR fetched at `s.pc` has landed, leaves PC past the two bytes of each
(R661). -/
theorem jrOp_neg_pc {s t : State} {d : Byte} (hd : d ≠ 0x80) (ht : t.pc = s.pc + 2 + sext16 d) :
    (jrOp (-d) { t with pc := t.pc + 2 }).pc = s.pc + 4 := by
  rw [jrOp_pc, ht, sext16_neg hd]
  bv_omega

/-! ## Calls and returns -/

/-- `push16` is the push of the statements: the two bytes at SP - 2, SP two lower, and nothing else (R700). -/
theorem State.push16_pushes (s : State) (v : Word) : Pushes s (s.push16 v) v := by
  have hhigh : s.sp - 2 + 1 = s.sp - 1 := by bv_omega
  have hsp : s.sp - 1 - 1 = s.sp - 2 := by bv_omega
  constructor
  · intro hwf x
    rw [State.memRead_push16 hwf, hhigh, loByte_eq_ofNat, hiByte_eq_ofNat]
  · rw [← hsp]
    rfl

/-- An instruction that calls `a` pushes the address after its bytes and sets PC to `a` (R655, R656, R660). -/
theorem exec_callTo_pushes {i : Instr} {s : State} {a : Word} {cost : Nat}
    (hi : exec i s = .next ((s.callTo a).charge cost)) :
    ∃ t, Pushes s t s.pc ∧ exec i s = .next { t with pc := a, result := some (.cycles cost) } :=
  ⟨_, s.push16_pushes s.pc, hi⟩

/-- The word a return takes is the one `pop16` reads (R701). -/
theorem State.memRead16_sp_eq_top (s : State) : s.memRead16 s.sp = s.top := by
  rw [State.top, ← State.memRead16_toNat, BitVec.ofNat_toNat, BitVec.setWidth_eq]

/-- A return sets PC to the word at SP and moves SP up by two, and nothing else changes (R657). -/
theorem State.returnFrom_eq (s : State) : s.returnFrom = { s with pc := s.top, sp := s.sp + 2 } := by
  have hsp : s.sp + 1 + 1 = s.sp + 2 := by bv_omega
  rw [← State.memRead16_sp_eq_top, ← hsp]
  rfl

/-! ## The conditional forms, taken and not taken (R319) -/

theorem exec_jrCc_eq (cc : Cond) (e : Byte) (s : State) : exec (Instr.jrCc cc e) s = .next (
    if s.cond cc then { s with pc := BitVec.ofInt 16 ((s.pc.toNat : Int) + e.toInt), result := some (.cycles 12) }
    else { s with result := some (.cycles 8) }) := by
  rw [exec_jrCc, jrCcOp, State.jumpRelative_eq]
  rfl

theorem exec_callCc_taken {cc : Cond} {s : State} (hcc : s.cond cc = true) (a : Word) :
    exec (Instr.callCc cc a) s = .next ((s.callTo a).charge 24) := by
  rw [exec_callCc, callCcOp, if_pos hcc]

theorem exec_callCc_untaken {cc : Cond} {s : State} (hcc : s.cond cc = false) (a : Word) :
    exec (Instr.callCc cc a) s = .next (s.charge 12) := by
  rw [exec_callCc, callCcOp, if_neg (Bool.eq_false_iff.mp hcc)]

theorem exec_retCc_eq (cc : Cond) (s : State) : exec (Instr.retCc cc) s = .next (
    if s.cond cc then { s with pc := s.top, sp := s.sp + 2, result := some (.cycles 20) }
    else { s with result := some (.cycles 8) }) := by
  rw [exec_retCc, retCcOp, State.returnFrom_eq]
  rfl

end Sys2Proof.Machine

/-! ## The obligations on control transfer -/

namespace Sys2Proof.Proofs
open Sys2Proof.Machine

/-- Settles O38: both forms jump by `jumpRelative`, which adds the signed displacement to the PC after the fetch. -/
theorem relativeJumps : Obligations.RelativeJumps := by
  intro s cc e target
  have hjr : exec (.jr_e8 e) s = .next ((s.jumpRelative e).charge 12) := rfl
  rw [State.jumpRelative_eq] at hjr
  exact ⟨hjr, exec_jrCc_eq cc e s, rfl, encode_jrCc_code cc e⟩

/-- Settles O39: sign extension takes the opposite displacement to the opposite word, so the two additions cancel, and what
two executed JR leave is their own four bytes. -/
theorem relativeJumpLaw : Obligations.RelativeJumpLaw := by
  refine ⟨?_, ?_, ?_, ?_⟩
  · exact fun s d => congrArg State.pc (s.jumpRelative_eq d)
  · exact fun s _ hd => s.jumpRelative_jumpRelative_neg hd
  · exact fun _ _ _ => State.jumpRelative_pc_inj
  · exact fun _ d hd => ⟨_, _, rfl, rfl, jrOp_neg_pc hd (jrOp_pc _ d)⟩

/-- Settles O41: each call is `callTo`, one push of the PC after the fetch and one write of PC. -/
theorem callsPushTheReturnAddress : Obligations.CallsPushTheReturnAddress := by
  intro s cc a y lo hi calls
  have hlo : lo = loByte a := (loByte_eq_ofNat a).symm
  have hhi : hi = hiByte a := (hiByte_eq_ofNat a).symm
  rw [hlo, hhi]
  exact ⟨exec_callTo_pushes rfl, fun hcc => exec_callTo_pushes (exec_callCc_taken hcc a),
    fun hcc => exec_callCc_untaken hcc a, exec_callTo_pushes (exec_rst y s), rfl, encode_callCc_code cc a,
    encode_rst_code y⟩

/-- Settles O40: each form writes PC once, with its address or with HL, and the untaken form writes nothing. -/
theorem absoluteJumps : Obligations.AbsoluteJumps := by
  intro s cc a lo hi
  have hlo : lo = loByte a := (loByte_eq_ofNat a).symm
  have hhi : hi = hiByte a := (hiByte_eq_ofNat a).symm
  rw [hlo, hhi]
  exact ⟨rfl, exec_jpCc cc a s, rfl, rfl, encode_jpCc_code cc a, rfl⟩

/-- Settles O42: each return is `returnFrom`, the pop of the word at SP into PC; RETI also sets IME. -/
theorem returnsPopThePc : Obligations.ReturnsPopThePc := by
  intro s cc
  have hret : exec .ret s = .next (s.returnFrom.charge 16) := rfl
  have hreti : exec .reti s = .next (State.charge 16 { s.returnFrom with ime := true }) := rfl
  rw [State.returnFrom_eq] at hret hreti
  exact ⟨hret, exec_retCc_eq cc s, hreti, rfl, encode_retCc_code cc, rfl⟩

end Sys2Proof.Proofs

/-! PROOFS. The stack (spec/46_stack.md). PUSH is one `push16` and POP one `pop16` and one write of a pair; that a pop reads
the word just pushed, wherever SP points, is said once, for any two pairs. -/

namespace Sys2Proof

/-! ## The opcode by pair (R308, R312) -/

theorem encode_push_code (r : R16Stk) : (Instr.push r).encode = [BitVec.ofNat 8 (0xC5 + 16 * r.code)] := by
  cases r <;> rfl

end Sys2Proof

namespace Sys2Proof.Machine

/-! ## The pop (R701) -/

/-- A POP writes its pair with the word at SP, moves SP up by two and charges 12 (R703, R704). -/
theorem popOp_eq (r : R16Stk) (s : State) :
    popOp r s = State.setStk { s with sp := s.sp + 2, result := some (.cycles 12) } r (s.memRead16 s.sp) := by
  have hsp : s.sp + 1 + 1 = s.sp + 2 := by bv_omega
  rw [← hsp]
  cases r <;> rfl

/-- A write of a pair with the word of two bytes puts the high byte in its high half and the low byte in its low half, for
AF through the mask (R104, R114). -/
theorem State.setStk_wordOf (s : State) (hi lo : Byte) :
    s.setStk .bc (wordOf hi lo) = { s with b := hi, c := lo } ∧
    s.setStk .de (wordOf hi lo) = { s with d := hi, e := lo } ∧
    s.setStk .hl (wordOf hi lo) = { s with h := hi, l := lo } ∧
    s.setStk .af (wordOf hi lo) = { s with a := hi, f := lo &&& 0xF0 } := by
  simp only [State.setStk, State.setR16, State.setHl, State.setR8, State.setF, hiByte_wordOf, loByte_wordOf, and_self]

/-! ## A pop after a push (R705) -/

/-- Writing back the word a pair reads changes nothing, once bits 3 to 0 of F are zero. -/
theorem State.setStk_getStk_self {s : State} (hf : s.f &&& 0x0F = 0) (r : R16Stk) : s.setStk r (s.getStk r) = s := by
  cases r with
  | bc =>
    obtain ⟨hbc, -⟩ := s.setStk_wordOf s.b s.c
    exact hbc
  | de =>
    obtain ⟨-, hde, -⟩ := s.setStk_wordOf s.d s.e
    exact hde
  | hl =>
    obtain ⟨-, -, hhl, -⟩ := s.setStk_wordOf s.h s.l
    exact hhl
  | af =>
    obtain ⟨-, -, -, haf⟩ := s.setStk_wordOf s.a s.f
    have hmask : s.f &&& 0xF0 = s.f := masked_of_low hf
    rw [hmask] at haf
    exact haf

/-- The word at SP after a push is the word pushed: its two bytes never share an address, at the wrap either. -/
theorem State.push16_memRead16_sp {s : State} (hwf : s.mem.wf = true) (v : Word) :
    (s.push16 v).memRead16 (s.push16 v).sp = v := by
  have hlow : s.sp - 1 - 1 = s.sp - 2 := by bv_omega
  have hhigh : s.sp - 2 + 1 = s.sp - 1 := by bv_omega
  have hne : s.sp - 1 ≠ s.sp - 2 := by bv_omega
  rw [State.push16_sp, hlow, State.memRead16, hhigh, State.memRead_push16 hwf, State.memRead_push16 hwf, if_neg hne,
    if_pos rfl, if_pos rfl, wordOf_hiByte_loByte]

/-- A PUSH changes memory, SP and the result only (R702). -/
theorem pushOp_eq (r : R16Stk) (s : State) :
    pushOp r s = { s with mem := (pushOp r s).mem, sp := s.sp - 2, result := some (.cycles 16) } :=
  congrArg (State.charge 16) (s.push16_pushes (s.getStk r)).2

/-- A POP of `q` after a PUSH of `r` writes `q` with the word of `r` and leaves SP where it was. -/
theorem popOp_pushOp {s : State} (hwf : s.mem.wf = true) (q r : R16Stk) :
    popOp q (pushOp r s) =
      State.setStk { s with mem := (pushOp r s).mem, result := some (.cycles 12) } q (s.getStk r) := by
  have hread : (pushOp r s).memRead16 (pushOp r s).sp = s.getStk r := State.push16_memRead16_sp hwf _
  have hsp : (pushOp r s).sp + 2 = s.sp := by rw [pushOp_eq, BitVec.sub_add_cancel]
  rw [popOp_eq, hread, hsp]
  exact congrArg (fun t : State => State.setStk { t with sp := s.sp, result := some (.cycles 12) } q (s.getStk r))
    (pushOp_eq r s)

/-- A POP after a PUSH of the same pair restores all but memory and the result (R705). -/
theorem popOp_pushOp_self {s : State} (hwf : s.mem.wf = true) (hf : s.f &&& 0x0F = 0) (r : R16Stk) :
    popOp r (pushOp r s) = { s with mem := (pushOp r s).mem, result := some (.cycles 12) } :=
  (popOp_pushOp hwf r r).trans
    (State.setStk_getStk_self (s := { s with mem := (pushOp r s).mem, result := some (.cycles 12) }) hf r)

end Sys2Proof.Machine

/-! ## The obligations on the stack -/

namespace Sys2Proof.Proofs
open Sys2Proof.Machine

/-- Settles O43: PUSH is one `push16` of the pair. -/
theorem pushStoresThePair : Obligations.PushStoresThePair := by
  intro s r
  exact ⟨⟨_, s.push16_pushes (s.getStk r), exec_push r s⟩, encode_push_code r⟩

/-- Settles O45: the pop reads the word just pushed and SP comes back; the masked F makes the write of AF lossless, and the
write of BC into AF drops bits 3 to 0. -/
theorem popUndoesPush : Obligations.PopUndoesPush := by
  intro s r hwf hf
  refine ⟨⟨_, _, exec_push r s, exec_pop r _, popOp_pushOp_self hwf hf r⟩, ⟨_, _, exec_push .bc s, exec_pop .af _, ?_⟩⟩
  rw [popOp_pushOp hwf]
  exact ⟨State.setStk_af_af _ s.bc, rfl⟩

/-- Settles O44: the word a pop reads is the two bytes at SP, and the write of a pair takes it apart again. -/
theorem popLoadsThePair : Obligations.PopLoadsThePair := by
  intro s lo hi t
  have hpop (r : R16Stk) : exec (Instr.pop r) s = .next (t.setStk r (wordOf hi lo)) := by
    rw [exec_pop, popOp_eq]
    rfl
  obtain ⟨hbc, hde, hhl, haf⟩ := t.setStk_wordOf hi lo
  exact ⟨(hpop .bc).trans (congrArg _ hbc), (hpop .de).trans (congrArg _ hde), (hpop .hl).trans (congrArg _ hhl),
    (hpop .af).trans (congrArg _ haf), rfl⟩

end Sys2Proof.Proofs

/-! PROOFS. System instructions (spec/47_system.md). The row PREFIX_CB is the extended entry its byte selects; each kind of
step is said once, from what decides it; and IME and the latch of EI are said for every instruction. -/

namespace Sys2Proof.Machine

/-! ## The row PREFIX_CB (R751) -/

/-- The extended entry a byte selects is the operation of the row PREFIX_CB (R309). -/
theorem exec_decodeExtended (op2 : Byte) (s : State) : exec (decodeExtended op2) s = .next (prefixOp op2 s) := by
  obtain ⟨x, y, z, rfl⟩ := exists_opOf op2
  match x with
  | 0 => simp [prefixOp]
  | 1 => simp [prefixOp]
  | 2 => simp [prefixOp]
  | 3 => simp [prefixOp]

/-- No extended entry jumps. -/
theorem prefixOp_pc (op2 : Byte) (s : State) : (prefixOp op2 s).pc = s.pc := by
  unfold prefixOp
  split
  · simp [rotOp]
  · simp [bitOp]
  · simp [resOp]
  · simp [setOp]

/-! ## Taking an input that nothing is written for (R807, R819) -/

/-- With no value for IF, or with nothing to write it to, taking an input only drops it from the list. -/
theorem State.takeInput_of_unwritten {s : State} (h : s.input.ifBits = none ∨ s.params.irqModel = .absent) :
    s.takeInput = { s with inputs := s.inputs.tail } := by
  rcases h with hnone | habsent
  · exact State.takeInput_of_none hnone
  · simp only [State.takeInput, habsent]

/-! ## The kinds of a step -/

section
variable {s t : State} (ht : t = s.takeInput)
include ht

/-- The step of a machine that sleeps and dispatches no interrupt: WAKE, or in Halted a request, wakes it (R808, R901). -/
theorem step_of_sleeping
    (hrun : t.run = .stopped ∨ (t.run = .halted ∧ (t.irqSeen && t.ime) = false)) :
    step s = .next (State.charge 4 { t with
      run := if s.input.wake || (decide (t.run = .halted) && t.irqSeen) then .running else t.run }) := by
  rcases step_cases s t ht with ⟨hr, -⟩ | ⟨hr, hd, -⟩ | ⟨-, hstep⟩ | ⟨hr, -⟩
  · rcases hrun with h | ⟨h, -⟩ <;> cases hr.symm.trans h
  · rcases hrun with h | ⟨-, h⟩
    · rcases hr with hr | hr <;> cases hr.symm.trans h
    · cases hd.symm.trans h
  · exact hstep
  · rcases hrun with h | ⟨h, -⟩ <;> cases hr.symm.trans h

/-- The step of HaltedError (R805). -/
theorem step_of_haltedError (hrun : t.run = .haltedError) : step s = .next t.repeatError := by
  subst ht
  simp only [step, State.stepKind, hrun]

/-- The step of a machine that runs and dispatches no interrupt (R900). -/
theorem step_of_running (hrun : t.run = .running) (hd : (t.irqSeen && t.ime) = false) : step s = t.executeStep := by
  subst ht
  simp only [step, State.stepKind, hrun, hd, Bool.false_eq_true, if_false]

/-- The step of a machine that dispatches an interrupt (R808). -/
theorem State.Dispatches.step_eq (hd : t.Dispatches) (hrun : t.run = .running ∨ t.run = .halted) :
    step s = .next t.takeInterrupt := by
  rw [State.dispatches_iff] at hd
  subst ht
  rcases hrun with hr | hr
  · simp only [step, State.stepKind, hr, hd, if_true]
  · simp only [step, State.stepKind, hr, hd, if_true]

end

/-- The requests the step sees, as the obligations write them (R808). -/
theorem State.irqSeen_iff (t : State) :
    t.irqSeen = true ↔
      t.params.irqModel = .gbStandard ∧ (t.memRead 0xFFFF &&& t.memRead 0xFF0F &&& 0x1F) ≠ 0 := by
  simp only [State.irqSeen, Bool.and_eq_true, decide_eq_true_eq]
  rfl

/-! ## The latch of EI (R756, R757, R902) -/

section
variable {i : Instr} {s t : State} (h : exec i s = .next t)
include h

/-- EI alone sets the latch. -/
theorem exec_eiPending (hs : s.eiPending = false) : t.eiPending = decide (i = .ei) := by
  obtain ⟨u, hu, -, -, -, -, -, -, hei, -⟩ := Proofs.controlStateFrame i s
  cases exec_unique h hu
  by_cases hi : i = .ei
  · subst hi
    cases h
    rfl
  · rw [hei.resolve_right hi, hs, decide_eq_false hi]

/-- IME at the end of a step, from what the instruction did: DI clears it, RETI sets it, an illegal byte keeps it, and
after any other it is set if the latch was. -/
theorem exec_then_endInstr_ime :
    (t.ime || t.apply) = (if i = .di then false else if i = .reti then true
      else if i ∈ illegalInstrs then s.ime else (s.ime || s.apply)) := by
  obtain ⟨u, hu, -, -, -, -, -, hime, -, happly, -⟩ := Proofs.controlStateFrame i s
  cases exec_unique h hu
  by_cases hdi : i = .di
  · subst hdi
    cases h
    rfl
  by_cases hreti : i = .reti
  · subst hreti
    cases h
    rfl
  have hkept : t.ime = s.ime := hime.resolve_right (by simp [hdi, hreti])
  rw [if_neg hdi, if_neg hreti, hkept]
  by_cases hill : i ∈ illegalInstrs
  · obtain ⟨op, hop⟩ := mem_illegalInstrs_iff.1 hill
    rw [if_pos hill, exec_unique h (exec_illegal hop s), State.raiseIllegal, Bool.or_false]
  · rw [if_neg hill, happly.resolve_right (by simp [hdi, hill])]

end

end Sys2Proof.Machine

/-! ## The obligations on the system instructions -/

namespace Sys2Proof.Proofs
open Sys2Proof.Machine

/-- Settles O46: the row PREFIX_CB and the extended entry are one operation, which keeps the control state and does not
jump. -/
theorem nopAndThePrefix : Obligations.NopAndThePrefix := by
  refine ⟨fun _ => rfl, rfl, fun op2 rest s => ⟨⟨prefixOp op2 s, rfl, exec_decodeExtended op2 s, ?_⟩, decode_two rfl,
    encode_decodeExtended op2, rfl, rfl⟩⟩
  have hc := (prefixOp_effect op2 (s := s)).control
  exact ⟨congrArg Control.mode hc, prefixOp_pc op2 s, congrArg Control.run hc, congrArg Control.err hc⟩

/-- Settles O48: a machine that sleeps with no request seen is woken by WAKE alone, and the latch is set in Running only. -/
theorem haltAndStopSleepUntilWoken : Obligations.HaltAndStopSleepUntilWoken := by
  refine ⟨fun _ _ => ⟨rfl, rfl, rfl, rfl⟩, fun s t ht hrun hirq => ?_, fun _ => State.takeInput_of_unwritten,
    fun s hs hrun => ?_⟩
  · have hrun' : t.run = s.run := by rw [ht, State.takeInput_run]
    rw [← hrun'] at hrun hirq ⊢
    rcases hrun with hr | hr
    · have hseen : t.irqSeen = false := by
        rw [← Bool.not_eq_true, State.irqSeen_iff]
        exact fun ⟨hgb, hne⟩ => hne (hirq hr hgb)
      rw [step_of_sleeping ht (.inr ⟨hr, by rw [hseen, Bool.false_and]⟩), hseen, Bool.and_false, Bool.or_false]
      rfl
    · rw [step_of_sleeping ht (.inl hr), hr]
      simp [State.charge]
  · by_contra hei
    have hrunning := hs.eiWhileRunning (by simpa using hei)
    rcases hrun with h | h <;> cases hrunning.symm.trans h

/-- Settles O49: an executing step runs its instruction with the latch taken and then applies it; a dispatch clears both. -/
theorem eiIsDelayedByOneInstruction : Obligations.EiIsDelayedByOneInstruction := by
  refine ⟨fun _ => ⟨rfl, rfl, rfl, rfl⟩, fun s t i rest ht hexec hdecode => ?_, fun s t ht hd hrun => ?_⟩
  · obtain ⟨u, hu, hstep⟩ := stepRunsTheDecodedInstruction s t i rest ht hexec hdecode
    have hei : u.eiPending = decide (i = .ei) := exec_eiPending hu rfl
    have hime := exec_then_endInstr_ime hu
    simp only [ht, State.takeInput_ime, State.takeInput_eiPending] at hime
    exact ⟨_, hstep, rfl, hei, hime⟩
  · exact ⟨_, hd.step_eq ht hrun, t.takeInterrupt_eiPending, t.takeInterrupt_ime⟩

end Sys2Proof.Proofs

/-! PROOFS. Exceptions and interrupts (spec/60_exceptions.md): what the host's input writes, once and any number of times in
a row, the interrupt dispatch, and that no operation of the machine without interrupts reads IME. -/

namespace Sys2Proof.Machine

/-! ## The host's input (R819) -/

/-- A byte with its bits 4 to 0 replaced, in exact arithmetic. -/
theorem low_bits_replaced (m : Byte) (v : BitVec 5) :
    (m &&& 0xE0) ||| v.setWidth 8 = BitVec.ofNat 8 (m.toNat / 32 * 32 + v.toNat) := by
  have hhigh : (m &&& 0xE0).toNat = (m.toNat / 32) <<< 5 := by revert m; decide
  apply BitVec.eq_of_toNat_eq
  rw [BitVec.toNat_or, hhigh, BitVec.toNat_setWidth_of_le (by decide), ← Nat.shiftLeft_add_eq_or_of_lt v.isLt,
    Nat.shiftLeft_eq, BitVec.toNat_ofNat]
  omega

/-- A read once the input is taken: under gb_standard bits 4 to 0 of IF are the value given, and nothing else is written. -/
theorem State.takeInput_memRead {s : State} (hwf : s.mem.wf = true) (x : Word) :
    s.takeInput.memRead x =
      if x = 0xFF0F ∧ s.params.irqModel = .gbStandard then
        (match s.input.ifBits with
          | some v => BitVec.ofNat 8 ((s.memRead x).toNat / 32 * 32 + v.toNat)
          | none => s.memRead x)
      else s.memRead x := by
  rcases hmodel : s.params.irqModel with _ | _
  · rw [State.takeInput_of_unwritten (.inr hmodel), if_neg (by simp)]
    rfl
  · rcases hbits : s.input.ifBits with _ | v
    · rw [State.takeInput_of_unwritten (.inl hbits), ite_self]
      rfl
    · have hwrite : s.takeInput = State.memWrite { s with inputs := s.inputs.tail } 0xFF0F
          (BitVec.ofNat 8 ((s.memRead 0xFF0F).toNat / 32 * 32 + v.toNat)) := by
        simp only [State.takeInput, hmodel, hbits, low_bits_replaced]
        rfl
      rw [hwrite, State.memRead_memWrite (s := { s with inputs := s.inputs.tail }) hwf]
      by_cases hx : x = 0xFF0F
      · rw [if_pos hx, if_pos ⟨hx, rfl⟩, hx]
      · rw [if_neg hx, if_neg (fun h => hx h.1)]
        rfl

theorem State.takeInput_memRead_other {s : State} (hwf : s.mem.wf = true) {x : Word} (hx : x ≠ 0xFF0F) :
    s.takeInput.memRead x = s.memRead x := by
  rw [State.takeInput_memRead hwf, if_neg (fun h => hx h.1)]

/-- The next input gives no value for IF when none in the list does. -/
theorem State.input_ifBits_none {s : State} (h : ∀ x ∈ s.inputs, x.ifBits = none) : s.input.ifBits = none := by
  unfold State.input
  cases hinputs : s.inputs with
  | nil => rfl
  | cons x xs => exact h x (by simp [hinputs])

/-- The result of the last step has no part in taking an input. -/
theorem State.takeInput_result_update (s : State) (r : Option StepResult) :
    State.takeInput { s with result := r } = { s.takeInput with result := r } := by
  simp only [State.takeInput, State.input]
  split <;> rfl

/-! ## The inputs of several steps in a row -/

section
variable (n : Nat)

/-- Taking inputs changes at most the list of inputs and memory. -/
theorem State.takeInputs_eq (s : State) :
    State.takeInput^[n] s = { s with inputs := s.inputs.drop n, mem := (State.takeInput^[n] s).mem } := by
  induction n with
  | zero => rfl
  | succ n ih =>
    rw [Function.iterate_succ_apply', State.takeInput_eq, ih, ← List.tail_drop]

theorem State.takeInputs_memRead_other {x : Word} (hx : x ≠ 0xFF0F) :
    ∀ s : State, s.mem.wf = true → (State.takeInput^[n] s).memRead x = s.memRead x := by
  induction n with
  | zero => intro s _; rfl
  | succ n ih =>
    intro s hwf
    rw [Function.iterate_succ_apply, ih _ (State.takeInput_keeps_wf hwf), State.takeInput_memRead_other hwf hx]

/-- With no value for IF, or with nothing to write it to, memory stays the same data. -/
theorem State.takeInputs_mem_of_unwritten :
    ∀ s : State, (∀ x ∈ s.inputs, x.ifBits = none) ∨ s.params.irqModel = .absent →
      (State.takeInput^[n] s).mem = s.mem := by
  induction n with
  | zero => intro s _; rfl
  | succ n ih =>
    intro s h
    rw [Function.iterate_succ_apply, State.takeInput_of_unwritten (h.imp_left State.input_ifBits_none)]
    exact ih _ (h.imp_left fun hnone x hx => hnone x (List.mem_of_mem_tail hx))

end

/-! ## HaltedError (R805) -/

section
variable {s : State} {e : IllegalOpcode}

theorem step_of_recordedError (hrun : s.run = .haltedError) (herr : s.err = some e) :
    step s = .next { s.takeInput with result := some (.error e) } := by
  rw [step_of_haltedError rfl (by rw [State.takeInput_run, hrun])]
  simp [State.repeatError, herr]

/-- Once the error has been returned, a step in HaltedError is the taking of its input. -/
theorem steps_of_recordedError (n : Nat) :
    ∀ s : State, s.run = .haltedError → s.err = some e → s.result = some (.error e) →
      Steps n s (State.takeInput^[n] s) := by
  induction n with
  | zero => intro s _ _ _; exact .zero s
  | succ n ih =>
    intro s hrun herr hres
    have hstep : step s = .next s.takeInput := by
      rw [step_of_recordedError hrun herr, ← hres, ← s.takeInput_result]
    exact .succ n s _ _ hstep (ih _ (by simpa using hrun) (by simpa using herr) (by simpa using hres))

end

/-! ## The interrupt dispatch (R808) -/

/-- The lowest request of the five is the one below which none is set. -/
theorem lowestIrq_eq {p : Byte} {i : Nat} (hi : i < 5) (hset : p.getLsbD i = true)
    (hclear : ∀ j < i, p.getLsbD j = false) : lowestIrq p = i := by
  unfold lowestIrq
  interval_cases i <;> simp only [hset, hclear, Nat.reduceLT, Bool.false_eq_true, reduceIte]

/-- The mask of the five sources keeps their bits. -/
theorem State.irqPending_getLsbD (t : State) {j : Nat} (hj : j < 5) :
    t.irqPending.getLsbD j = (t.memRead 0xFFFF &&& t.memRead 0xFF0F).getLsbD j := by
  have hmask : ∀ j < 5, (0x1F : Byte).getLsbD j = true := by decide
  rw [State.irqPending, BitVec.getLsbD_and, hmask j hj, Bool.and_true]
  rfl

/-- The state a dispatch pushes PC from: the request is cleared in IF, IME and the latch are cleared, and the core is
Running. -/
def State.requestTaken (t : State) : State :=
  { t.memWrite 0xFF0F (t.memRead 0xFF0F &&& ~~~(BitVec.ofNat 8 (2 ^ lowestIrq t.irqPending))) with
    run := .running, ime := false, eiPending := false }

theorem State.takeInterrupt_push (t : State) :
    t.takeInterrupt = ((t.requestTaken.push16 t.pc).setPc (irqVector (lowestIrq t.irqPending))).charge 20 := rfl

/-- A dispatch as the whole next state but for memory. -/
theorem State.takeInterrupt_eq (t : State) :
    t.takeInterrupt = { t with
      run := .running, ime := false, eiPending := false, sp := t.sp - 2, pc := irqVector (lowestIrq t.irqPending)
      mem := t.takeInterrupt.mem, result := some (.cycles 20) } :=
  t.takeInterrupt_push.trans <| congrArg (fun u : State => (u.setPc (irqVector (lowestIrq t.irqPending))).charge 20)
    (t.requestTaken.push16_pushes t.pc).2

/-- Memory after a dispatch: the request is cleared in IF, and then PC is pushed over it. -/
theorem State.takeInterrupt_memRead {t : State} (hwf : t.mem.wf = true) (x : Word) :
    t.takeInterrupt.memRead x =
      if x = t.sp - 2 then BitVec.ofNat 8 (t.pc.toNat % 256)
      else if x = t.sp - 1 then BitVec.ofNat 8 (t.pc.toNat / 256)
      else if x = 0xFF0F then t.memRead 0xFF0F &&& ~~~(BitVec.ofNat 8 (2 ^ lowestIrq t.irqPending))
      else t.memRead x := by
  have hcleared : t.requestTaken.mem.wf = true := State.memWrite_keeps_wf (s := t) _ _ hwf
  rw [← loByte_eq_ofNat, ← hiByte_eq_ofNat, ← State.memRead_memWrite hwf, State.takeInterrupt_push]
  exact State.memRead_push16 hcleared t.pc x

/-! ## IME (R123, R807) -/

/-- The state with another value of IME. -/
def State.withIme (s : State) (b : Bool) : State := { s with ime := b }

/-- Two outcomes that go on, with states that differ in IME at most. -/
def SameButIme (o o' : Out) : Prop := ∃ (t : State) (b : Bool), o = .next t ∧ o' = .next (t.withIme b)

section
variable (s : State) (b : Bool)

/-! ### No read looks at IME, and every update but those of IME keeps it -/

@[simp] theorem State.withIme_run : (s.withIme b).run = s.run := rfl

@[simp] theorem State.withIme_mode : (s.withIme b).mode = s.mode := rfl

@[simp] theorem State.withIme_input : (s.withIme b).input = s.input := rfl

@[simp] theorem State.withIme_getOpnd (o : Opnd8) : (s.withIme b).getOpnd o = s.getOpnd o := rfl

@[simp] theorem State.withIme_getR16 (r : R16) : (s.withIme b).getR16 r = s.getR16 r := rfl

@[simp] theorem State.withIme_cf : (s.withIme b).cf = s.cf := rfl

@[simp] theorem State.withIme_flags (z n h c : Option Bool) :
    (s.withIme b).flags z n h c = (s.flags z n h c).withIme b := rfl

@[simp] theorem State.withIme_charge (n : Nat) : (s.withIme b).charge n = (s.charge n).withIme b := rfl

@[simp] theorem State.withIme_chargeExtended (n : Nat) :
    (s.withIme b).chargeExtended n = (s.chargeExtended n).withIme b := by
  rw [State.chargeExtended_eq, State.chargeExtended_eq]
  rfl

@[simp] theorem State.withIme_setR8 (r : R8) (v : Byte) : (s.withIme b).setR8 r v = (s.setR8 r v).withIme b := by
  cases r <;> rfl

@[simp] theorem State.withIme_setR16 (r : R16) (v : Word) : (s.withIme b).setR16 r v = (s.setR16 r v).withIme b := by
  cases r <;> rfl

@[simp] theorem State.withIme_putOpnd (o : Opnd8) (v : Byte) :
    (s.withIme b).putOpnd o v = (s.putOpnd o v).withIme b := by
  cases o with
  | reg r => exact s.withIme_setR8 b r v
  | mHL => rfl

/-! ### The shared operations -/

theorem rotOp_withIme (op : RotOp) (o : Opnd8) : rotOp op o (s.withIme b) = (rotOp op o s).withIme b := by
  rcases hout : rotate op (s.getOpnd o) s.cf with ⟨res, c⟩
  simp [rotOp, hout]

theorem bitOp_withIme (i : Fin 8) (o : Opnd8) : bitOp i o (s.withIme b) = (bitOp i o s).withIme b := by
  simp [bitOp]

theorem resOp_withIme (i : Fin 8) (o : Opnd8) : resOp i o (s.withIme b) = (resOp i o s).withIme b := by
  simp [resOp]

theorem setOp_withIme (i : Fin 8) (o : Opnd8) : setOp i o (s.withIme b) = (setOp i o s).withIme b := by
  simp [setOp]

theorem prefixOp_withIme (op2 : Byte) : prefixOp op2 (s.withIme b) = (prefixOp op2 s).withIme b := by
  unfold prefixOp
  split
  · exact rotOp_withIme ..
  · exact bitOp_withIme ..
  · exact resOp_withIme ..
  · exact setOp_withIme ..

end

section
variable {i : Instr} {op : State → State} {s : State} {b : Bool}

/-- An instruction whose operation neither reads nor writes IME. -/
theorem exec_withIme_of (h : ∀ s, exec i s = .next (op s)) (hop : op (s.withIme b) = (op s).withIme b) :
    SameButIme (exec i s) (exec i (s.withIme b)) :=
  ⟨op s, b, h s, (h _).trans (congrArg _ hop)⟩

end

/-- No instruction reads IME: from states that differ in it at most, every instruction leads to such states. -/
theorem exec_withIme (i : Instr) (s : State) (b : Bool) : SameButIme (exec i s) (exec i (s.withIme b)) := by
  cases i.form with
  | di => exact ⟨diOp s, false, rfl, rfl⟩
  | reti => exact ⟨retiOp s, true, rfl, rfl⟩
  | alu op src => exact exec_withIme_of (exec_alu op src) (by cases op <;> rfl)
  | inc8 o => exact exec_withIme_of (exec_inc8 o) (by simp [inc8Op])
  | dec8 o => exact exec_withIme_of (exec_dec8 o) (by simp [dec8Op])
  | inc16 r => exact exec_withIme_of (exec_inc16 r) (by simp [inc16Op])
  | dec16 r => exact exec_withIme_of (exec_dec16 r) (by simp [dec16Op])
  | addHL r => exact exec_withIme_of (exec_addHL r) rfl
  | rot op o => exact exec_withIme_of (exec_rot op o) (rotOp_withIme ..)
  | bit i o => exact exec_withIme_of (exec_bit i o) (bitOp_withIme ..)
  | res i o => exact exec_withIme_of (exec_res i o) (resOp_withIme ..)
  | set i o => exact exec_withIme_of (exec_set i o) (setOp_withIme ..)
  | prefixCB op2 => exact exec_withIme_of (fun _ => rfl) (prefixOp_withIme s b op2)
  | ld y z h => exact exec_withIme_of (exec_ld y z h) (by simp [ldOp])
  | ldN8 y n => exact exec_withIme_of (exec_ldN8 y n) (by simp [ldN8Op])
  | ldAMem m => exact exec_withIme_of (exec_ldAMem m) (by cases m <;> rfl)
  | ldMemA m => exact exec_withIme_of (exec_ldMemA m) (by cases m <;> rfl)
  | ldN16 r n => exact exec_withIme_of (exec_ldN16 r n) (by simp [ldN16Op])
  | pop r => exact exec_withIme_of (exec_pop r) (by cases r <;> rfl)
  | push r => exact exec_withIme_of (exec_push r) rfl
  | rst y => exact exec_withIme_of (exec_rst y) rfl
  | jrCc cc e => exact exec_withIme_of (exec_jrCc cc e) (by simp only [jrCcOp, apply_ite (State.withIme · b)]; rfl)
  | jpCc cc a => exact exec_withIme_of (exec_jpCc cc a) (by simp only [jpCcOp, apply_ite (State.withIme · b)]; rfl)
  | callCc cc a => exact exec_withIme_of (exec_callCc cc a) (by simp only [callCcOp, apply_ite (State.withIme · b)]; rfl)
  | retCc cc => exact exec_withIme_of (exec_retCc cc) (by simp only [retCcOp, apply_ite (State.withIme · b)]; rfl)
  | illegal op i h => exact exec_withIme_of (exec_illegal h) rfl
  | _ => exact ⟨_, b, rfl, rfl⟩

section
variable (s : State) (b : Bool)

theorem State.fetch_withIme : (s.withIme b).fetch = (s.fetch.1, s.fetch.2.withIme b) := by
  rcases hmode : s.mode with _ | _
  · rw [State.fetch_primary hmode, State.fetch_primary (s := s.withIme b) hmode]
    rfl
  · rw [State.fetch, State.fetch, State.withIme_mode, hmode]
    rfl

theorem State.executeStep_withIme : SameButIme s.executeStep (s.withIme b).executeStep := by
  obtain ⟨t, b', ht, hb⟩ := exec_withIme s.beginInstr.fetch.1 s.beginInstr.fetch.2 b
  refine ⟨t.endInstr, b' || t.apply, congrArg (Out.mapNext State.endInstr) ht, ?_⟩
  have hfetch : (s.withIme b).beginInstr.fetch = (s.beginInstr.fetch.1, s.beginInstr.fetch.2.withIme b) :=
    State.fetch_withIme s.beginInstr b
  rw [State.executeStep, hfetch]
  exact congrArg (Out.mapNext State.endInstr) hb

/-- Without interrupts no step reads IME. -/
theorem step_withIme (h : s.params.irqModel = .absent) : SameButIme (step s) (step (s.withIme b)) := by
  have htake : (s.withIme b).takeInput = s.takeInput.withIme b := by
    rw [State.takeInput_of_unwritten (.inr h), State.takeInput_of_unwritten (s := s.withIme b) (.inr h)]
    rfl
  have hidle (c : Bool) : (s.takeInput.irqSeen && c) = false := by simp [State.irqSeen, h]
  have asleep (hrun : s.takeInput.run = .stopped ∨ s.takeInput.run = .halted) : SameButIme (step s) (step (s.withIme b)) := by
    have hcase (c : Bool) := hrun.imp_right fun hr => And.intro hr (hidle c)
    exact ⟨_, b, step_of_sleeping rfl (hcase _), step_of_sleeping htake.symm (hcase b)⟩
  rcases hrun : s.takeInput.run with _ | _ | _ | _
  · rw [step_of_running rfl hrun (hidle _), step_of_running htake.symm hrun (hidle b)]
    exact State.executeStep_withIme ..
  · exact asleep (.inr hrun)
  · exact asleep (.inl hrun)
  · exact ⟨_, b, step_of_haltedError rfl hrun, step_of_haltedError htake.symm hrun⟩

end

end Sys2Proof.Machine

/-! ## The obligations on exceptions and interrupts -/

namespace Sys2Proof.Proofs
open Sys2Proof.Machine

/-- Settles O56: the input is read where it is taken, and one byte is written with it. -/
theorem hostInputReachesOnlyIf : Obligations.HostInputReachesOnlyIf :=
  fun s => ⟨s.takeInput_eq, fun hwf x => State.takeInput_memRead hwf x⟩

/-- Settles O53: a step in HaltedError takes its input and returns the recorded error, so any number of them take as many
inputs. -/
theorem haltedErrorIsTerminal : Obligations.HaltedErrorIsTerminal := by
  intro s e hrun herr
  have hstep := step_of_recordedError hrun herr
  refine ⟨hstep, fun n => ?_⟩
  rw [← State.takeInput_result_update] at hstep
  have hsteps := steps_of_recordedError (e := e) n (State.takeInput { s with result := some (.error e) })
    (by simpa using hrun) (by simpa using herr) (by simp)
  exact ⟨_, .succ n s _ _ hstep hsteps, State.takeInputs_eq (n + 1) { s with result := some (.error e) },
    fun hwf x hx => State.takeInputs_memRead_other (n + 1) hx { s with result := some (.error e) } hwf,
    State.takeInputs_mem_of_unwritten (n + 1) { s with result := some (.error e) }⟩

/-- Settles O54: a dispatch takes the lowest request and pushes PC; a machine that sleeps is woken by a request in Halted
only. -/
theorem interruptsAreDispatched : Obligations.InterruptsAreDispatched := by
  refine ⟨fun s t i ht hd hrun hi hset hclear => ?_, fun s t ht hgb hne hrun hime => ?_, fun s t ht hrun hwake => ?_⟩
  · have hlowest : lowestIrq t.irqPending = i :=
      lowestIrq_eq hi ((t.irqPending_getLsbD hi).trans hset)
        fun j hj => (t.irqPending_getLsbD (hj.trans hi)).trans (hclear j hj)
    refine ⟨_, hd.step_eq ht hrun, ?_, fun hwf x => ?_⟩
    · rw [← hlowest]
      exact t.takeInterrupt_eq
    · rw [← hlowest]
      exact State.takeInterrupt_memRead hwf x
  · have hseen : t.irqSeen = true := t.irqSeen_iff.2 ⟨hgb, hne⟩
    rw [step_of_sleeping ht (.inr ⟨hrun, by rw [hime, Bool.and_false]⟩), hseen, hrun]
    simp [State.charge]
  · rw [step_of_sleeping ht (.inl hrun), hwake, hrun]
    simp [State.charge]

/-- Settles O55: no operation reads IME, and without interrupts the kind of the step does not either; the value for IF is
not written. -/
theorem withoutInterruptsImeIsReadByNothing : Obligations.WithoutInterruptsImeIsReadByNothing := by
  intro s b h
  refine ⟨step_withIme s b h, fun wake v rest => ?_⟩
  have htake (v : Option (BitVec 5)) :
      State.takeInput { s with inputs := ⟨wake, v⟩ :: rest } = { s with inputs := rest } :=
    State.takeInput_of_unwritten (.inr h)
  rw [step, step, htake, htake]
  rfl

end Sys2Proof.Proofs

/-! PROOFS. The step's result and the frame (spec/70_reset_and_hazards.md): what each instruction charges, that a frame ends
because every step that goes on costs at least 4 cycles, and the frame of NOPs. -/

namespace Sys2Proof.Machine

/-! ## What an instruction charges (R903) -/

/-- The step's result is one of the costs a step can have. -/
def State.Charged (t : State) : Prop := ∃ n ∈ [4, 8, 12, 16, 20, 24], t.result = some (.cycles n)

theorem State.charged_charge (u : State) {n : Nat} (hn : n ∈ [4, 8, 12, 16, 20, 24]) : (u.charge n).Charged :=
  ⟨n, hn, rfl⟩

/-- An entry cost of 8 to 16 is a cost of a step under both values of CB_TIMING (R322). -/
theorem State.charged_chargeExtended (u : State) {entry : Nat} (h : entry ∈ [8, 12, 16]) :
    (u.chargeExtended entry).Charged := by
  refine ⟨u.extendedCost entry, ?_, by rw [State.chargeExtended_eq]⟩
  unfold State.extendedCost
  cases u.params.cbTiming <;> revert entry <;> decide

/-- A conditional operation is charged when both of its outcomes are. -/
theorem State.Charged.ite {c : Prop} [Decidable c] {t u : State} (ht : t.Charged) (hu : u.Charged) :
    (if c then t else u).Charged := by
  split
  · exact ht
  · exact hu

section
variable (s : State) (o : Opnd8)

theorem rmwCost_mem : rmwCost o ∈ [8, 12, 16] := by cases o <;> simp [rmwCost]

theorem bitCost_mem : bitCost o ∈ [8, 12, 16] := by cases o <;> simp [bitCost]

theorem rotOp_charged (op : RotOp) : (rotOp op o s).Charged := State.charged_chargeExtended _ (rmwCost_mem o)

theorem bitOp_charged (b : Fin 8) : (bitOp b o s).Charged := State.charged_chargeExtended _ (bitCost_mem o)

theorem resOp_charged (b : Fin 8) : (resOp b o s).Charged := State.charged_chargeExtended _ (rmwCost_mem o)

theorem setOp_charged (b : Fin 8) : (setOp b o s).Charged := State.charged_chargeExtended _ (rmwCost_mem o)

theorem prefixOp_charged (op2 : Byte) : (prefixOp op2 s).Charged := by
  unfold prefixOp
  split
  · exact rotOp_charged ..
  · exact bitOp_charged ..
  · exact resOp_charged ..
  · exact setOp_charged ..

end

/-- Every instruction but the illegal rows charges a cost of 4 to 24 in multiples of 4. -/
theorem exec_charged {i : Instr} (hi : i ∉ illegalInstrs) (s : State) : ∃ t, exec i s = .next t ∧ t.Charged := by
  cases i.form with
  | illegal op i h => exact absurd (mem_illegalInstrs h) hi
  | rot op o => exact ⟨_, exec_rot .., rotOp_charged ..⟩
  | bit b o => exact ⟨_, exec_bit .., bitOp_charged ..⟩
  | res b o => exact ⟨_, exec_res .., resOp_charged ..⟩
  | set b o => exact ⟨_, exec_set .., setOp_charged ..⟩
  | prefixCB op2 => exact ⟨_, rfl, prefixOp_charged ..⟩
  | alu op src =>
    exact ⟨_, exec_alu .., State.charged_charge _ (by rcases src with ⟨_ | _⟩ | _ <;> simp [aluCost])⟩
  | inc8 o => exact ⟨_, exec_inc8 .., State.charged_charge _ (by cases o <;> simp [incDecCost])⟩
  | dec8 o => exact ⟨_, exec_dec8 .., State.charged_charge _ (by cases o <;> simp [incDecCost])⟩
  | inc16 r => exact ⟨_, exec_inc16 .., State.charged_charge _ (by decide)⟩
  | dec16 r => exact ⟨_, exec_dec16 .., State.charged_charge _ (by decide)⟩
  | addHL r => exact ⟨_, exec_addHL .., State.charged_charge _ (by decide)⟩
  | ld y z h =>
    refine ⟨_, exec_ld _ _ h _, State.charged_charge _ ?_⟩
    rw [ldCost_eq]
    cases y <;> cases z <;> simp [byOperand]
  | ldN8 y n => exact ⟨_, exec_ldN8 .., State.charged_charge _ (by cases y <;> simp [ldN8Cost])⟩
  | ldAMem m => exact ⟨_, exec_ldAMem .., State.charged_charge _ (by decide)⟩
  | ldMemA m => exact ⟨_, exec_ldMemA .., State.charged_charge _ (by decide)⟩
  | ldN16 r n => exact ⟨_, exec_ldN16 .., State.charged_charge _ (by decide)⟩
  | jrCc cc e =>
    exact ⟨_, exec_jrCc .., .ite (State.charged_charge _ (by decide)) (State.charged_charge _ (by decide))⟩
  | jpCc cc a =>
    exact ⟨_, exec_jpCc .., .ite (State.charged_charge _ (by decide)) (State.charged_charge _ (by decide))⟩
  | callCc cc a =>
    exact ⟨_, exec_callCc .., .ite (State.charged_charge _ (by decide)) (State.charged_charge _ (by decide))⟩
  | retCc cc =>
    exact ⟨_, exec_retCc .., .ite (State.charged_charge _ (by decide)) (State.charged_charge _ (by decide))⟩
  | rst y => exact ⟨_, exec_rst .., State.charged_charge _ (by decide)⟩
  | push r => exact ⟨_, exec_push .., State.charged_charge _ (by decide)⟩
  | pop r => exact ⟨_, exec_pop .., State.charged_charge _ (by decide)⟩
  | _ => exact ⟨_, rfl, State.charged_charge _ (by decide)⟩

/-! ## What a step returns (R903) -/

/-- The step returned a cost and the core did not enter HaltedError, or it returned the recorded error in HaltedError. -/
def State.Returned (t : State) : Prop :=
  (t.run ≠ .haltedError ∧ t.Charged) ∨ (t.run = .haltedError ∧ ∃ e, t.err = some e ∧ t.result = some (.error e))

theorem State.executeStep_returned {t : State} (hmode : t.mode = .primary) (hrun : t.run ≠ .haltedError) :
    ∃ u, t.executeStep = .next u ∧ u.Returned := by
  obtain ⟨u, hu, hstep⟩ := State.executeStep_primary hmode
  refine ⟨_, hstep, ?_⟩
  by_cases hi : decodeBytes (t.memRead t.pc) (t.memRead (t.pc + 1)) (t.memRead (t.pc + 2)) ∈ illegalInstrs
  · obtain ⟨op, hop⟩ := mem_illegalInstrs_iff.1 hi
    cases exec_unique hu (exec_illegal hop _)
    exact .inr ⟨rfl, _, rfl, rfl⟩
  · obtain ⟨v, hv, hcharged⟩ := exec_charged hi _
    cases exec_unique hu hv
    exact .inl ⟨fun h => hi (exec_enters_haltedError hu hrun h), hcharged⟩

theorem step_returned {s : State} (hs : s.Inv) : ∃ t, step s = .next t ∧ t.Returned := by
  have ht := hs.takeInput
  rcases step_cases s _ rfl with ⟨hrun, hstep⟩ | ⟨-, -, hstep⟩ | ⟨hrun, hstep⟩ | ⟨hrun, -, hstep⟩
  · obtain ⟨e, he⟩ := Option.isSome_iff_exists.1 (ht.errorRecorded.1 hrun)
    exact ⟨_, hstep, .inr ⟨hrun, e, he, by rw [State.repeatError, he]; rfl⟩⟩
  · exact ⟨_, hstep, .inl ⟨by rw [State.takeInterrupt_run]; decide, State.charged_charge _ (by decide)⟩⟩
  · refine ⟨_, hstep, .inl ⟨?_, State.charged_charge _ (by decide)⟩⟩
    rw [State.charge_run]
    dsimp only
    split
    · decide
    · rcases hrun with hr | ⟨hr, -⟩ <;> rw [hr] <;> decide
  · rw [hstep]
    exact State.executeStep_returned ht.modePrimary (by rw [hrun]; decide)

/-! ## The frame (R951, R952) -/

theorem frameBudget_eq : Config.frameBudget = 69905 := by decide

/-- From an accumulator the frame loop ends in `t` with `r` after `n` steps, whatever bound of at least `n` it is given. -/
structure FrameEnds (acc : Nat) (s : State) (n : Nat) (r : FrameResult) (t : State) : Prop where
  steps : Steps n s t
  answer : ∀ fuel ≥ n, runFrameFrom fuel acc s = (r, t)

section
variable {acc k n : Nat} {s t u : State} {r : FrameResult} {e : IllegalOpcode}

theorem FrameEnds.done (hacc : 69905 ≤ acc) : FrameEnds acc s 0 (.frameDone acc) s where
  steps := .zero s
  answer fuel _ := by
    have hover : ¬acc < Config.frameBudget := by rw [frameBudget_eq]; omega
    cases fuel with
    | zero => rw [runFrameFrom, if_neg hover]
    | succ fuel => rw [runFrameFrom, if_neg hover]

section
variable (hacc : acc < 69905) (hstep : step s = .next t)
include hacc hstep

theorem FrameEnds.error (hres : t.result = some (.error e)) : FrameEnds acc s 1 (.frameError e acc) t where
  steps := .succ 0 s t t hstep (.zero t)
  answer fuel hfuel := by
    obtain ⟨fuel, rfl⟩ := Nat.exists_eq_add_of_le' hfuel
    simp only [runFrameFrom, frameBudget_eq, hacc, if_true, hstep, hres]

theorem FrameEnds.cycles (hres : t.result = some (.cycles k)) (h : FrameEnds (acc + k) t n r u) :
    FrameEnds acc s (n + 1) r u where
  steps := .succ n s t u hstep h.steps
  answer fuel hfuel := by
    obtain ⟨fuel, rfl⟩ := Nat.exists_eq_add_of_le' (Nat.le_of_add_left_le hfuel)
    simp only [runFrameFrom, frameBudget_eq, hacc, if_true, hstep, hres]
    exact h.answer fuel (by omega)

end
end

/-- How a frame ends: without error, with the accumulator in its bounds, or with the recorded error below the budget. -/
def FrameResult.Bounded (r : FrameResult) (t : State) : Prop :=
  (∃ acc, r = .frameDone acc ∧ 69905 ≤ acc ∧ acc ≤ 69928 ∧ t.run ≠ .haltedError) ∨
  (∃ e acc, r = .frameError e acc ∧ acc < 69905 ∧ t.run = .haltedError ∧ t.err = some e)

/-- A frame ends within as many steps as fit in the budget at the least cost, 4, and past the budget by less than the
greatest, 24. -/
theorem frame_ends (fuel : Nat) :
    ∀ (acc : Nat) (s : State), s.Inv → acc < 69905 ∨ (acc ≤ 69928 ∧ s.run ≠ .haltedError) → 69905 ≤ acc + 4 * fuel →
      ∃ n r t, n ≤ fuel ∧ FrameEnds acc s n r t ∧ r.Bounded t := by
  induction fuel with
  | zero =>
    intro acc s _ hacc hfuel
    obtain ⟨hle, hrun⟩ := hacc.resolve_left (by omega)
    exact ⟨0, _, s, le_rfl, .done hfuel, .inl ⟨acc, rfl, hfuel, hle, hrun⟩⟩
  | succ fuel ih =>
    intro acc s hs hacc hfuel
    by_cases hlt : acc < 69905
    · obtain ⟨t, hstep, ⟨hrun, k, hk, hres⟩ | ⟨hrun, e, herr, hres⟩⟩ := step_returned hs
      · have hcosts : ∀ k ∈ [4, 8, 12, 16, 20, 24], 4 ≤ k ∧ k ≤ 24 := by decide
        have hcost := hcosts k hk
        obtain ⟨n, r, u, hn, hends, hbounded⟩ := ih (acc + k) t (Proofs.everyStepKeepsTheInvariant s t hs hstep)
          (.inr ⟨by omega, hrun⟩) (by omega)
        exact ⟨n + 1, r, u, by omega, .cycles hlt hstep hres hends, hbounded⟩
      · exact ⟨1, _, t, by omega, .error hlt hstep hres, .inr ⟨e, acc, rfl, hlt, hrun, herr⟩⟩
    · obtain ⟨hle, hrun⟩ := hacc.resolve_left hlt
      exact ⟨0, _, s, Nat.zero_le _, .done (by omega), .inl ⟨acc, rfl, by omega, hle, hrun⟩⟩

/-- A frame starts from 0 and is given the least bound that the budget needs. -/
theorem runFrame_ends {s : State} (hs : s.Inv) :
    ∃ n r t, n ≤ 17477 ∧ FrameEnds 0 s n r t ∧ r.Bounded t ∧ runFrame s = (r, t) := by
  obtain ⟨n, r, t, hn, hends, hbounded⟩ := frame_ends frameStepBound 0 s hs (.inl (by decide)) (by decide)
  exact ⟨n, r, t, hn, hends, hbounded, hends.answer frameStepBound hn⟩

/-! ## The frame of NOPs (R952) -/

/-- A machine without interrupts that runs in a memory of zeros, each of them a NOP. -/
structure State.RunsNops (s : State) : Prop where
  running : s.run = .running
  modePrimary : s.mode = .primary
  absent : s.params.irqModel = .absent
  zeros : ∀ x : Word, s.memRead x = 0x00

/-- The instruction at a zero byte is NOP, of one byte (R750). -/
theorem decodeBytes_zero : decodeBytes 0x00 0x00 0x00 = .nop := by decide

theorem State.RunsNops.step_next {s : State} (hs : s.RunsNops) :
    ∃ t, step s = .next t ∧ t.RunsNops ∧ t.pc = s.pc + 1 ∧ t.result = some (.cycles 4) := by
  have htake := State.takeInput_of_unwritten (.inr hs.absent)
  have hidle : (State.irqSeen { s with inputs := s.inputs.tail } && s.ime) = false := by
    simp [State.irqSeen, hs.absent]
  have hzeros : ∀ x, State.memRead { s with inputs := s.inputs.tail } x = 0x00 := hs.zeros
  obtain ⟨u, hu, hstep⟩ := State.executeStep_primary (t := { s with inputs := s.inputs.tail }) hs.modePrimary
  rw [hzeros, hzeros, hzeros, decodeBytes_zero] at hu
  cases exec_unique hu rfl
  exact ⟨_, (step_of_running htake.symm hs.running hidle).trans hstep,
    ⟨hs.running, hs.modePrimary, hs.absent, hs.zeros⟩, rfl, rfl⟩

theorem State.RunsNops.frame_ends (n : Nat) :
    ∀ (acc : Nat) (s : State), s.RunsNops → 69905 ≤ acc + 4 * n → acc + 4 * n < 69909 →
      ∃ t, FrameEnds acc s n (.frameDone (acc + 4 * n)) t ∧ t.pc = s.pc + BitVec.ofNat 16 n := by
  induction n with
  | zero =>
    intro acc s _ hbudget _
    exact ⟨s, .done hbudget, by simp⟩
  | succ n ih =>
    intro acc s hs hbudget hlast
    obtain ⟨t, hstep, ht, hpc, hres⟩ := hs.step_next
    obtain ⟨u, hends, hpc'⟩ := ih (acc + 4) t ht (by omega) (by omega)
    refine ⟨u, ?_, ?_⟩
    · rw [show acc + 4 * (n + 1) = acc + 4 + 4 * n by omega]
      exact .cycles (by omega) hstep hres hends
    · rw [hpc', hpc]
      bv_omega

end Sys2Proof.Machine

/-! ## The obligations on the step's result and the frame -/

namespace Sys2Proof.Proofs
open Sys2Proof.Machine

/-- Settles O51: one case for each kind of step; an instruction charges its cost or is an illegal row, which raises. -/
theorem everyStepReturnsCyclesOrError : Obligations.EveryStepReturnsCyclesOrError :=
  fun _ hs => step_returned hs

/-- Settles O57: a step that goes on costs 4 to 24, which bounds the steps of a frame and its end; a NOP costs 4. -/
theorem framesEndWithinTheirBounds : Obligations.FramesEndWithinTheirBounds := by
  refine ⟨frameBudget_eq, fun s hs => ?_, fun s hs fuel hfuel => ?_, fun s hrun hmode habsent hzeros => ?_⟩
  · obtain ⟨n, r, t, hn, hends, hbounded, hframe⟩ := runFrame_ends hs
    rw [hframe]
    refine ⟨n, t, hn, hends.steps, ?_⟩
    rcases hbounded with ⟨acc, rfl, hlow, hhigh, hrun⟩ | ⟨e, acc, rfl, hlow, hrun, herr⟩
    · exact .inl ⟨acc, rfl, hlow, hhigh, hrun⟩
    · exact .inr ⟨e, acc, rfl, hlow, hrun, herr⟩
  · obtain ⟨n, r, t, hn, hends, -, hframe⟩ := runFrame_ends hs
    rw [hframe]
    exact hends.answer fuel (hn.trans hfuel)
  · obtain ⟨t, hends, hpc⟩ := State.RunsNops.frame_ends 17477 0 s ⟨hrun, hmode, habsent, hzeros⟩ (by omega) (by omega)
    exact ⟨t, hends.answer frameStepBound le_rfl, hends.steps, hpc⟩

end Sys2Proof.Proofs
